-- ==== Sys2Proof/Word.lean ====
section
/-! DEFINITION. Word.lean: the size parameters of RSEQ (spec/00_scope.md R6), and the types whose widths they are (R8).
`delta%` writes the parameter's numeral into the type, so that a width is given once, here, and stands as a numeral in
every goal. -/

namespace Sys2Proof

/-! ### Size parameters (R6) -/

/-- N_SHADOW, in shadow slots. -/
abbrev Config.nShadow : Nat := 16
/-- REG_W, in bits of a shadow slot and of a chip register. -/
abbrev Config.regW : Nat := 16
/-- ADDR_W, in bits of a transport register address. -/
abbrev Config.addrW : Nat := 8
/-- OPERAND_W, in bits of a command operand, two's complement. -/
abbrev Config.operandW : Nat := 32

/-! ### Types -/

/-- The contents of one shadow slot and of one chip register: REG_W bits (R6, R20). -/
abbrev Word := BitVec (delta% Config.regW)

/-- A transport register address: ADDR_W bits (R6, R48). -/
abbrev Addr := BitVec (delta% Config.addrW)

/-- A status code, a count, an ASCII byte (R22, R45). -/
abbrev Byte := BitVec 8

/-- One operand field A or B of a command word: OPERAND_W bits (R6, R90). -/
abbrev Field := BitVec (delta% Config.operandW)

/-- The command word `cmd_word[71:0]` (R46, R90). -/
abbrev Command := BitVec 72

/-- The index of a shadow slot: N_SHADOW slots (R6, R20). -/
abbrev Slot := Fin (delta% Config.nShadow)

end Sys2Proof
end

