-- ==== Sys2Proof/Config.lean ====
section
/-! DEFINITION. Config.lean: the implementation parameters of spec/00_scope.md R6, one constant each, with the value the
rule gives, and the register map of spec/10_state.md R24 to R34. N_SHADOW, REG_W, ADDR_W and OPERAND_W stand in Word.lean,
with the types they size; PRESETS, F_UNIT and INFO_REPORT, which R6 leaves OPEN, are arguments in Machine/HostSurface.lean.
The values the spec marks as general knowledge are UNVERIFIED by the source it was written from
(notes/assumptions/12.md). -/

namespace Sys2Proof.Config

/-! ### Frequency, volume, status (R6) -/

/-- FREQ_LOW, in units of 10 kHz. -/
abbrev freqLow : Int := 8700
/-- FREQ_HIGH, in units of 10 kHz. -/
abbrev freqHigh : Int := 10800
/-- FREQ_STEP, in units of 10 kHz (100 kHz, 90_conflicts.md C5). -/
abbrev freqStep : Nat := 10
/-- MAX_VOLUME, in volume steps. -/
abbrev maxVolume : Int := 15
/-- CHIPID_VALUE (R25). -/
abbrev chipidValue : Word := 0x0058
/-- VOL_DEFAULT (R32). -/
abbrev volDefault : Word := 0x84D1
/-- CHAN_SHIFT: the bit position of the channel field in CHAN (R29). -/
abbrev chanShift : Nat := 6
/-- RA_CHAN_MASK: the low 10 bits of RA (R33). -/
abbrev raChanMask : Word := 0x03FF
/-- RSSI_SHIFT: the right shift of RB (R34). -/
abbrev rssiShift : Nat := 10
/-- SHADOW_RESET (R50). -/
abbrev shadowReset : Word := 0x0000

/-! ### The settling delays, lower bounds in milliseconds (R6, R7, R283) -/

/-- TUNE_SETTLE_MS. -/
abbrev tuneSettleMs : Nat := 200
/-- VOL_SETTLE_MS. -/
abbrev volSettleMs : Nat := 300
/-- SEEK_WAIT_MS. -/
abbrev seekWaitMs : Nat := 1000
/-- RESET_HOLD_MS. -/
abbrev resetHoldMs : Nat := 2000

/-! ### Build choice (R6, R203, R204) -/

/-- TERM_FLUSH: whether TERM transmits registers 2 to 7. The spec's value is true (decision D21). -/
abbrev termFlush : Bool := true

/-! ### Register addresses, which are the shadow indices too (R24) -/

/-- A_CHIPID. -/
abbrev CHIPID : Slot := 0x0
/-- A_CTRL. -/
abbrev CTRL : Slot := 0x2
/-- A_CHAN. -/
abbrev CHAN : Slot := 0x3
/-- A_R4. -/
abbrev R4 : Slot := 0x4
/-- A_VOL. -/
abbrev VOL : Slot := 0x5
/-- A_RA. -/
abbrev RA : Slot := 0xA
/-- A_RB. -/
abbrev RB : Slot := 0xB

/-! ### CTRL bits (R27) -/

/-- Audio output enabled. -/
abbrev BIT_OUTPUT : Word := 0x8000
/-- Audio not muted. -/
abbrev BIT_UNMUTE : Word := 0x4000
/-- Force mono. -/
abbrev BIT_MONO : Word := 0x2000
/-- Bass boost. -/
abbrev BIT_BASS : Word := 0x1000
/-- Seek direction: 1 is up. -/
abbrev BIT_SEEKUP : Word := 0x0200
/-- Seek in progress or armed. -/
abbrev BIT_SEEK : Word := 0x0100
/-- RDS enabled. -/
abbrev BIT_RDS : Word := 0x0008
/-- New demodulate method. -/
abbrev BIT_NEW : Word := 0x0004
/-- Soft reset. -/
abbrev BIT_RESET : Word := 0x0002
/-- Chip powered up. -/
abbrev BIT_ENABLE : Word := 0x0001
/-- CTRL bits 11:10 and 7:4, which RSEQ never sets (R28). -/
abbrev CTRL_UNNAMED : Word := 0x0CF0

/-! ### CHAN fields and codes (R29, R30) -/

/-- Start a tune to CHANNEL. -/
abbrev BIT_TUNE : Word := 0x0010
/-- CHAN bit 5 (DIRECT), which RSEQ never sets. -/
abbrev CHAN_UNNAMED : Word := 0x0020
/-- BAND = 00: FM. -/
abbrev BAND_FM_BITS : Word := 0x0000
/-- BAND = 10: FMWORLD. -/
abbrev BAND_FMWORLD_BITS : Word := 0x0008
/-- SPACE = 00: 100 kHz. -/
abbrev SPACE_100_BITS : Word := 0x0000

/-! ### R4, VOL, RA and RB bits (R31 to R34) -/

/-- Soft mute, bit 9 of R4. -/
abbrev BIT_SOFTMUTE : Word := 0x0200
/-- The VOLUME field, bits 3:0 of VOL. -/
abbrev VOL_FIELD : Word := 0x000F
/-- RDS ready, bit 15 of RA (R33). -/
abbrev BIT_RA_RDS : Word := 0x8000
/-- FM true, bit 8 of RB (R34). -/
abbrev BIT_RB_FMTRUE : Word := 0x0100

/-! ### Host-side parameter (R6, R113) -/

/-- VOLUME_STEP of the host's command surface; no rule of RSEQ reads it. -/
abbrev volumeStep : Int := 1

end Sys2Proof.Config
end

