-- ==== Sys2Proof/Syntax.lean ====
section
/-! DEFINITION. Syntax.lean: the sixteen commands of spec/30_encoding.md R95, one constructor per row of
spec/opcode_table.json, with their operands decoded as R93 says: int operands are integers, bool operands are
Booleans, band operands are bands. -/

namespace Sys2Proof

/-- The band operand and the field `d.band` (R36, R93). -/
inductive Band where
  /-- Code 0. -/
  | fm
  /-- Code 1. -/
  | fmworld
  deriving DecidableEq, Repr

/-- The assigned opcodes, in the order of the opcode map (R95). -/
inductive Opcode where
  | init | term | setfreq | getfreq | formatfreq
  | setbass | setmono | setmute | setsoftmute | setvolume
  | setband | seekup | seekdown | softreset | getrssi | getradioinfo
  deriving DecidableEq, Repr

/-- A decoded command (R95). -/
inductive Instr where
  /-- INIT f0, v0: initial frequency in 10 kHz units, initial volume (R120). -/
  | init (f0 v0 : Int)
  /-- TERM (R203). -/
  | term
  /-- SETFREQ freq, in 10 kHz units (R140). -/
  | setfreq (freq : Int)
  /-- GETFREQ (R145). -/
  | getfreq
  /-- FORMATFREQ (R146). -/
  | formatfreq
  /-- SETBASS b (R160). -/
  | setbass (b : Bool)
  /-- SETMONO b (R161). -/
  | setmono (b : Bool)
  /-- SETMUTE m: true mutes (R162). -/
  | setmute (m : Bool)
  /-- SETSOFTMUTE s (R163). -/
  | setsoftmute (s : Bool)
  /-- SETVOLUME vol (R164). -/
  | setvolume (vol : Int)
  /-- SETBAND band (R180). -/
  | setband (band : Band)
  /-- SEEKUP (R181). -/
  | seekup
  /-- SEEKDOWN (R182). -/
  | seekdown
  /-- SOFTRESET (R200). -/
  | softreset
  /-- GETRSSI (R201). -/
  | getrssi
  /-- GETRADIOINFO (R202). -/
  | getradioinfo
  deriving DecidableEq, Repr

/-- The opcode of a command. -/
def Instr.opcode : Instr → Opcode
  | .init _ _ => .init
  | .term => .term
  | .setfreq _ => .setfreq
  | .getfreq => .getfreq
  | .formatfreq => .formatfreq
  | .setbass _ => .setbass
  | .setmono _ => .setmono
  | .setmute _ => .setmute
  | .setsoftmute _ => .setsoftmute
  | .setvolume _ => .setvolume
  | .setband _ => .setband
  | .seekup => .seekup
  | .seekdown => .seekdown
  | .softreset => .softreset
  | .getrssi => .getrssi
  | .getradioinfo => .getradioinfo

end Sys2Proof
end

