-- ==== Sys2Proof/WellFormed.lean ====
section
/-! DEFINITION. WellFormed.lean: a command has an encoding exactly when each int operand is a 32-bit two's
complement number (spec/30_encoding.md R93). Bool and band operands carry their check in their types. -/

namespace Sys2Proof

/-- The range of an int operand, −2^31 to 2^31 − 1 (R93). -/
def intInRange (v : Int) : Bool := decide (-2147483648 ≤ v) && decide (v ≤ 2147483647)

/-- Every int operand of the command is in the range its field can hold. -/
def Instr.wellFormed : Instr → Bool
  | .init f0 v0 => intInRange f0 && intInRange v0
  | .setfreq freq => intInRange freq
  | .setvolume vol => intInRange vol
  | .term => true
  | .getfreq => true
  | .formatfreq => true
  | .setbass _ => true
  | .setmono _ => true
  | .setmute _ => true
  | .setsoftmute _ => true
  | .setband _ => true
  | .seekup => true
  | .seekdown => true
  | .softreset => true
  | .getrssi => true
  | .getradioinfo => true

end Sys2Proof
end

