-- ==== Sys2Proof/Decode.lean ====
section
/-! DEFINITION. Decode.lean: the command word of spec/30_encoding.md R90 to R97, decoded and encoded. -/

namespace Sys2Proof

/-! ### Fields (R90) -/

/-- OPC, bits 71:64. -/
def opcField (w : Command) : Byte := w.extractLsb' 64 8

/-- A, bits 63:32. -/
def aField (w : Command) : Field := w.extractLsb' 32 32

/-- B, bits 31:0. -/
def bField (w : Command) : Field := w.extractLsb' 0 32

/-! ### Opcode map (R95, R97) -/

/-- The OPC value of each command (R95). -/
def Opcode.code : Opcode → Byte
  | .init => 0x01
  | .term => 0x02
  | .setfreq => 0x10
  | .getfreq => 0x11
  | .formatfreq => 0x12
  | .setbass => 0x20
  | .setmono => 0x21
  | .setmute => 0x22
  | .setsoftmute => 0x23
  | .setvolume => 0x24
  | .setband => 0x30
  | .seekup => 0x31
  | .seekdown => 0x32
  | .softreset => 0x40
  | .getrssi => 0x41
  | .getradioinfo => 0x42

/-- The command an OPC value selects; none for every reserved value (R95, R97). -/
def Opcode.ofCode (c : Byte) : Option Opcode :=
  match c.toNat with
  | 0x01 => some .init
  | 0x02 => some .term
  | 0x10 => some .setfreq
  | 0x11 => some .getfreq
  | 0x12 => some .formatfreq
  | 0x20 => some .setbass
  | 0x21 => some .setmono
  | 0x22 => some .setmute
  | 0x23 => some .setsoftmute
  | 0x24 => some .setvolume
  | 0x30 => some .setband
  | 0x31 => some .seekup
  | 0x32 => some .seekdown
  | 0x40 => some .softreset
  | 0x41 => some .getrssi
  | 0x42 => some .getradioinfo
  | _ => none

/-! ### Operand decoding (R92 to R94) -/

/-- Why a word is no command (R94, R97). -/
inductive Reject where
  /-- OPC is reserved (R97, R233). -/
  | illegalOpcode
  /-- OPC is assigned and an operand field breaks R94 (R234). -/
  | illegalOperand
  deriving DecidableEq, Repr

/-- What the decoder answers for a word. -/
inductive Decoded where
  /-- The word is this command. -/
  | command (i : Instr)
  /-- The word is illegal, for this reason. -/
  | reject (r : Reject)
  deriving DecidableEq, Repr

/-- An int operand: `sext_32` of the field, never refused (R93). -/
def decodeInt (f : Field) : Int := f.toInt

/-- A bool operand: 0 or 1, anything else is illegal (R93). -/
def decodeBool (f : Field) : Option Bool :=
  if f = 0 then some false else if f = 1 then some true else none

/-- A band operand: 0 is FM, 1 is FMWORLD, anything else is illegal (R93). -/
def decodeBand (f : Field) : Option Band :=
  if f = 0 then some .fm else if f = 1 then some .fmworld else none

/-- A required-zero field in front of what the rest decodes to (R92). -/
def requireZero (f : Field) (rest : Option Instr) : Option Instr :=
  if f = 0 then rest else none

/-- The operand fields of an assigned opcode; none is ILLEGAL_OPERAND (R92 to R95). -/
def decodeOperands (op : Opcode) (a b : Field) : Option Instr :=
  match op with
  | .init => some (.init (decodeInt a) (decodeInt b))
  | .term => requireZero a (requireZero b (some .term))
  | .setfreq => requireZero b (some (.setfreq (decodeInt a)))
  | .getfreq => requireZero a (requireZero b (some .getfreq))
  | .formatfreq => requireZero a (requireZero b (some .formatfreq))
  | .setbass => requireZero b ((decodeBool a).map .setbass)
  | .setmono => requireZero b ((decodeBool a).map .setmono)
  | .setmute => requireZero b ((decodeBool a).map .setmute)
  | .setsoftmute => requireZero b ((decodeBool a).map .setsoftmute)
  | .setvolume => requireZero b (some (.setvolume (decodeInt a)))
  | .setband => requireZero b ((decodeBand a).map .setband)
  | .seekup => requireZero a (requireZero b (some .seekup))
  | .seekdown => requireZero a (requireZero b (some .seekdown))
  | .softreset => requireZero a (requireZero b (some .softreset))
  | .getrssi => requireZero a (requireZero b (some .getrssi))
  | .getradioinfo => requireZero a (requireZero b (some .getradioinfo))

/-- The decoder: the row is selected by OPC alone, then the operand fields are checked (R96, R238). -/
def decode (w : Command) : Decoded :=
  match Opcode.ofCode (opcField w) with
  | none => .reject .illegalOpcode
  | some op =>
    match decodeOperands op (aField w) (bField w) with
    | some i => .command i
    | none => .reject .illegalOperand

/-- The decoder on a row of spec/opcode_table.json: the word's low `nbits` bits, every bit above them 0. The whole
instruction is one 72-bit word, so bit 0 is the least significant bit of `cmd_word`. -/
def decodeTableWord (nbits w : Nat) : Option Instr :=
  match decode (BitVec.ofNat 72 (w % 2 ^ nbits)) with
  | .command i => some i
  | .reject _ => none

/-! ### Encoding (R90 to R93) -/

/-- The three fields put together (R90). -/
def packFields (opc : Byte) (a b : Field) : Command := opc ++ a ++ b

/-- The field of an int operand. -/
def encodeInt (v : Int) : Field := BitVec.ofInt 32 v

/-- The field of a bool operand. -/
def encodeBool (b : Bool) : Field := if b then 1 else 0

/-- The field of a band operand. -/
def encodeBand : Band → Field
  | .fm => 0
  | .fmworld => 1

/-- The A field of a command; 0 where it has none (R92). -/
def Instr.encodeA : Instr → Field
  | .init f0 _ => encodeInt f0
  | .setfreq freq => encodeInt freq
  | .setvolume vol => encodeInt vol
  | .setbass b => encodeBool b
  | .setmono b => encodeBool b
  | .setmute m => encodeBool m
  | .setsoftmute s => encodeBool s
  | .setband band => encodeBand band
  | .term => 0
  | .getfreq => 0
  | .formatfreq => 0
  | .seekup => 0
  | .seekdown => 0
  | .softreset => 0
  | .getrssi => 0
  | .getradioinfo => 0

/-- The B field of a command; only INIT has one (R92). -/
def Instr.encodeB : Instr → Field
  | .init _ v0 => encodeInt v0
  | .term => 0
  | .setfreq _ => 0
  | .getfreq => 0
  | .formatfreq => 0
  | .setbass _ => 0
  | .setmono _ => 0
  | .setmute _ => 0
  | .setsoftmute _ => 0
  | .setvolume _ => 0
  | .setband _ => 0
  | .seekup => 0
  | .seekdown => 0
  | .softreset => 0
  | .getrssi => 0
  | .getradioinfo => 0

/-- The command word of a command (R90, R95). -/
def encode (i : Instr) : Command := packFields i.opcode.code i.encodeA i.encodeB

/-! ### The match and mask columns of the opcode table (R96) -/

/-- `match = OPC << 64`. -/
def Opcode.matchWord (op : Opcode) : Command := packFields op.code 0 0

/-- `mask`: OPC for two operands, OPC and B for one, the whole word for none. -/
def Opcode.maskWord : Opcode → Command
  | .init => 0xFF0000000000000000
  | .setfreq => 0xFF00000000FFFFFFFF
  | .setbass => 0xFF00000000FFFFFFFF
  | .setmono => 0xFF00000000FFFFFFFF
  | .setmute => 0xFF00000000FFFFFFFF
  | .setsoftmute => 0xFF00000000FFFFFFFF
  | .setvolume => 0xFF00000000FFFFFFFF
  | .setband => 0xFF00000000FFFFFFFF
  | .term => 0xFFFFFFFFFFFFFFFFFF
  | .getfreq => 0xFFFFFFFFFFFFFFFFFF
  | .formatfreq => 0xFFFFFFFFFFFFFFFFFF
  | .seekup => 0xFFFFFFFFFFFFFFFFFF
  | .seekdown => 0xFFFFFFFFFFFFFFFFFF
  | .softreset => 0xFFFFFFFFFFFFFFFFFF
  | .getrssi => 0xFFFFFFFFFFFFFFFFFF
  | .getradioinfo => 0xFFFFFFFFFFFFFFFFFF

end Sys2Proof
end

