-- ==== Sys2Proof/Machine/State.lean ====
section
/-! DEFINITION. Machine/State.lean: everything spec/10_state.md gives RSEQ, as plain data, and its value after
reset (R50, R260). Three fields of State are the model's own and not the spec's: `cmds` and `inputs`, which hold
what the outside does (notes/assumptions/1.md), and `trace`, which records what R17 lets an observer see. -/

namespace Sys2Proof.Machine

open Sys2Proof

/-! ### The register files (R20, R36, R42) -/

/-- The lifecycle register `life` (R42). -/
inductive Life where
  /-- After reset, or after a failed INIT. -/
  | uninit
  /-- After a successful INIT. -/
  | ready
  /-- After a successful TERM. -/
  | terminated
  deriving DecidableEq, Repr

/-- The derived-state register file `d` (R36). -/
structure Derived where
  /-- Last known tuned frequency, in 10 kHz units (R37). -/
  frequency : BitVec 16
  /-- Last requested volume (R38). -/
  volume : BitVec 4
  /-- Last requested bass boost (R39). -/
  bassBoost : Bool
  /-- Last requested mute (R39). -/
  mute : Bool
  /-- Last requested soft mute (R39). -/
  softMute : Bool
  /-- Last requested or last refreshed mono (R39). -/
  mono : Bool
  /-- RDS enabled, from INIT, or RDS ready, from GETRADIOINFO (R39). -/
  rds : Bool
  /-- True after INIT, refreshed by GETRADIOINFO (R39). -/
  tuned : Bool
  /-- Last selected band (R40). -/
  band : Band
  /-- Last read RSSI (R41). -/
  rssi : BitVec 6
  deriving DecidableEq, Repr

/-- What RSEQ's internal updates can write: the shadow register file, the derived-state register file and the
lifecycle register. Nothing else of State is in an internal update's reach (R23). -/
structure Regs where
  /-- The shadow register file `x` (R20). -/
  x : Vector Word (delta% Config.nShadow)
  /-- The derived-state register file `d` (R36). -/
  d : Derived
  /-- The lifecycle register (R42). -/
  life : Life
  deriving DecidableEq, Repr

/-! ### The transport port (R48) -/

/-- `tx_kind`. -/
inductive TxKind where
  /-- WRITE, code 0 (R61). -/
  | write
  /-- READ_IDX, code 1 (R62). -/
  | readIdx
  /-- READ_SEQ, code 2 (R63). -/
  | readSeq
  deriving DecidableEq, Repr

/-- The request side of the transport port while `tx_valid = 1` (R48). -/
structure TxReq where
  /-- `tx_kind`. -/
  kind : TxKind
  /-- `tx_addr[7:0]`. -/
  addr : Addr
  /-- `tx_wdata[15:0]`. -/
  wdata : Word
  deriving DecidableEq, Repr

/-! ### The response port (R45) -/

/-- The response port while `rsp_valid = 1` (R45). `rsp_text_len` is the length of `text`. -/
structure Response where
  /-- `rsp_status[7:0]`, a code of R231. -/
  status : Byte
  /-- `rsp_result[31:0]`. -/
  result : BitVec 32
  /-- `rsp_text[0 .. rsp_text_len − 1]`. -/
  text : List Byte
  /-- `rsp_err_step[7:0]`. -/
  errStep : Byte
  /-- `rsp_err_addr[7:0]`. -/
  errAddr : Addr
  /-- `rsp_err_kind[7:0]`. -/
  errKind : Byte
  deriving DecidableEq, Repr

/-! ### What the outside does, and what it sees -/

/-- One thing the host, the transport or the timebase does (R45, R46, R48, R49). -/
inductive Input where
  /-- `rst` is asserted and released (R49, R260). -/
  | rst
  /-- The host presents a command word (R46). -/
  | cmd (w : Command)
  /-- The host asserts `rsp_ready` (R45). -/
  | take
  /-- `count` strobes of `tick_ms` (R49). -/
  | ticks (count : Nat)
  /-- The transport asserts `tx_done` with `tx_ok`, `tx_err` and `tx_rdata` (R48, R66, R232). -/
  | tx (ok : Bool) (err : BitVec 2) (rdata : BitVec 32)
  deriving DecidableEq, Repr

/-- One entry of the observation record (R17). -/
inductive Obs where
  /-- A transaction is issued. -/
  | tx (q : TxReq)
  /-- The transport answers it. -/
  | answer (ok : Bool) (err : BitVec 2) (rdata : BitVec 32)
  /-- A Wait of at least `ms` milliseconds starts. -/
  | wait (ms : Nat)
  /-- A response is emitted. -/
  | rsp (r : Response)
  deriving DecidableEq, Repr

/-! ### The sequencer (R22, R43) -/

/-- The sequencer's registers. -/
structure Seq where
  /-- `seq.op`: the opcode of the running command; none is IDLE. -/
  op : Option Opcode
  /-- `seq.step`: the transactions issued so far by the command. -/
  step : Byte
  /-- `seq.args`: the first decoded operand. -/
  argA : Int
  /-- `seq.args`: the second decoded operand. -/
  argB : Int
  /-- `seq.timer`: the strobes counted by the Wait in progress (R43; notes/assumptions/3.md). -/
  timer : Nat
  /-- The micro-step position: which micro-step of the command's expanded body is in progress. -/
  pos : Nat
  deriving DecidableEq, Repr

/-! ### The state -/

/-- The state of RSEQ, with the model's record of the outside. -/
structure State where
  /-- The register files. -/
  regs : Regs
  /-- The sequencer. -/
  seq : Seq
  /-- The transport request in flight; none is `tx_valid = 0`. That `tx_kind`, `tx_addr` and `tx_wdata` hold no value then
  is a DESIGN CHOICE: R48 and R50 say nothing of it (notes/assumptions/24.md). -/
  tx : Option TxReq
  /-- The pending response; none is `rsp_valid = 0`. That the other response signals hold no value then is a DESIGN CHOICE
  (notes/assumptions/9.md). -/
  rsp : Option Response
  /-- The command words presented and not yet accepted; the first is on `cmd_word`, none is `cmd_valid = 0`. -/
  cmds : List Command
  /-- What the outside does next, in order. Nothing constrains it. -/
  inputs : List Input
  /-- What has been observed so far, in order. No step reads it. -/
  trace : List Obs
  deriving DecidableEq, Repr

/-- RSEQ has no fault: every error the spec names ends the command with a response (R230, R235), so no step of the
model stops with one. -/
inductive Fault where
  deriving DecidableEq, Repr

/-- A command without a meaning in the model. -/
inductive Refusal where
  /-- Raised by an arm of `exec` for a command that has no meaning yet; no arm of this model raises it. Safe: the
  model stops where the hardware goes on. -/
  | notModelled (mnemonic : String)
  deriving DecidableEq, Repr

/-! ### Reset values (R50) -/

/-- `d` after reset. -/
def Derived.reset : Derived where
  frequency := 0
  volume := 0
  bassBoost := false
  mute := false
  softMute := false
  mono := false
  rds := false
  tuned := false
  band := .fmworld
  rssi := 0

/-- `x`, `d` and `life` after reset; INIT's `reset_state()` restores the same values (R50, R120). -/
def Regs.reset : Regs where
  x := Vector.replicate (delta% Config.nShadow) Config.shadowReset
  d := Derived.reset
  life := .uninit

/-- The sequencer after reset: IDLE, 0, 0, 0. -/
def Seq.reset : Seq where
  op := none
  step := 0
  argA := 0
  argB := 0
  timer := 0
  pos := 0

/-- The machine right after reset (R50, R260), with nothing presented, nothing to come and nothing observed. -/
def State.reset : State where
  regs := Regs.reset
  seq := Seq.reset
  tx := none
  rsp := none
  cmds := []
  inputs := []
  trace := []

end Sys2Proof.Machine
end

