-- ==== Sys2Proof/Machine/Operands.lean ====
section
/-! DEFINITION. Machine/Operands.lean: what the commands compute from their operands: the clamps, the channel number,
the CHAN values (spec/00_scope.md R9, 41_frequency.md R141 to R143, 42_controls.md R164, 43_band_seek.md R180). -/

namespace Sys2Proof.Machine

open Sys2Proof

/-- `clamp(v, lo, hi)` (R9). -/
def clamp (v lo hi : Int) : Int := if v < lo then lo else if v > hi then hi else v

/-- The clamped frequency (R141). -/
def clampFreq (freq : Int) : Int := clamp freq Config.freqLow Config.freqHigh

/-- The channel number of a clamped frequency: `(f − FREQ_LOW) div FREQ_STEP` (R142). -/
def channelOf (f : Int) : Nat := (f - Config.freqLow).toNat / Config.freqStep

/-- The CHAN value that tunes a channel: `BIT_TUNE | (ch << CHAN_SHIFT)` (R143). -/
def chanValue (ch : Nat) : Word := Config.BIT_TUNE ||| (BitVec.ofNat 16 ch <<< Config.chanShift)

/-- The CHAN value SETFREQ writes for an operand (R140 to R143). -/
def tuneValue (freq : Int) : Word := chanValue (channelOf (clampFreq freq))

/-- The clamped volume, 0 to 15 (R164). -/
def clampVolume (vol : Int) : BitVec 4 := BitVec.ofInt 4 (clamp vol 0 Config.maxVolume)

/-- The CHAN value SETBAND writes: the band bits with the 100 kHz spacing constant, all else 0 (R180). -/
def bandValue : Band → Word
  | .fm => Config.BAND_FM_BITS ||| Config.SPACE_100_BITS
  | .fmworld => Config.BAND_FMWORLD_BITS ||| Config.SPACE_100_BITS

/-- A bool operand as `seq.args` holds it (R9, R22). -/
def boolArg (b : Bool) : Int := if b then 1 else 0

/-- A band operand as `seq.args` holds it (R22, R93). -/
def bandArg : Band → Int
  | .fm => 0
  | .fmworld => 1

/-- `b <- (A = 1)` (R160 to R163). -/
def argBool (a : Int) : Bool := decide (a = 1)

/-- `bd <- A` (R180). -/
def argBand (a : Int) : Band := if a = 1 then .fmworld else .fm

end Sys2Proof.Machine
end

