-- ==== Sys2Proof/Machine/Flags.lean ====
section
/-! DEFINITION. Machine/Flags.lean: the internal updates of the register files: shadow slots, derived fields, `life`
(spec/10_state.md R36 to R42, 41_frequency.md R144, 42_controls.md R165, 44_reset_status.md R201, R202). -/

namespace Sys2Proof.Machine

open Sys2Proof

/-! ### Shadow slots (R10, R20) -/

/-- `x[a] <- v`. -/
def Regs.setSlot (r : Regs) (a : Slot) (v : Word) : Regs := { r with x := r.x.set a v }

/-- `x[a] <- x[a] | m`. -/
def Regs.setBits (r : Regs) (a : Slot) (m : Word) : Regs := r.setSlot a (r.x[a] ||| m)

/-- `x[a] <- x[a] & ~m`. -/
def Regs.clearBits (r : Regs) (a : Slot) (m : Word) : Regs := r.setSlot a (r.x[a] &&& ~~~m)

/-- `x[a] <- (x[a] & ~m) | (b ? m : 0)`: the toggle pattern (R165). -/
def Regs.toggleBits (r : Regs) (a : Slot) (m : Word) (b : Bool) : Regs :=
  if b then r.setBits a m else r.clearBits a m

/-! ### Derived fields and `life` (R36 to R42) -/

/-- `d.bassBoost <- b`. -/
def Regs.setBassBoost (b : Bool) (r : Regs) : Regs := { r with d := { r.d with bassBoost := b } }

/-- `d.mono <- b`. -/
def Regs.setMono (b : Bool) (r : Regs) : Regs := { r with d := { r.d with mono := b } }

/-- `d.mute <- b`. -/
def Regs.setMute (b : Bool) (r : Regs) : Regs := { r with d := { r.d with mute := b } }

/-- `d.softMute <- b`. -/
def Regs.setSoftMute (b : Bool) (r : Regs) : Regs := { r with d := { r.d with softMute := b } }

/-- `d.rds <- b`. -/
def Regs.setRds (b : Bool) (r : Regs) : Regs := { r with d := { r.d with rds := b } }

/-- `d.tuned <- b`. -/
def Regs.setTuned (b : Bool) (r : Regs) : Regs := { r with d := { r.d with tuned := b } }

/-- `d.volume <- v`. -/
def Regs.setVolume (v : BitVec 4) (r : Regs) : Regs := { r with d := { r.d with volume := v } }

/-- `d.band <- b`. -/
def Regs.setBand (b : Band) (r : Regs) : Regs := { r with d := { r.d with band := b } }

/-- `life <- l`. -/
def Regs.setLife (l : Life) (r : Regs) : Regs := { r with life := l }

/-! ### Fields computed from status registers (R144, R201, R202) -/

/-- `FREQ_LOW + (RA & RA_CHAN_MASK) * FREQ_STEP`, not clamped (R144). -/
def freqOf (ra : Word) : BitVec 16 :=
  BitVec.ofNat 16 (Config.freqLow.toNat + (ra &&& Config.raChanMask).toNat * Config.freqStep)

/-- `RB >> RSSI_SHIFT`, 6 bits (R41, R201). -/
def rssiOf (rb : Word) : BitVec 6 := (rb >>> Config.rssiShift).setWidth 6

/-- `d.frequency` from `x[RA]` (R144). -/
def Regs.readbackFrequency (r : Regs) : Regs := { r with d := { r.d with frequency := freqOf r.x[Config.RA] } }

/-- `d.rssi` from `x[RB]` (R201). -/
def Regs.readbackRssi (r : Regs) : Regs := { r with d := { r.d with rssi := rssiOf r.x[Config.RB] } }

/-- Whether the bit of a one-bit mask is set in a register value (R10). -/
def testBit (v m : Word) : Bool := v &&& m != 0

/-- `d.rds <- x[RA][15]` (R202). -/
def Regs.readbackRds (r : Regs) : Regs := r.setRds (testBit r.x[Config.RA] Config.BIT_RA_RDS)

/-- `d.tuned <- x[RB][8]` (R202). -/
def Regs.readbackTuned (r : Regs) : Regs := r.setTuned (testBit r.x[Config.RB] Config.BIT_RB_FMTRUE)

/-- `d.mono <- x[CTRL][13]`, from the shadow (R202). -/
def Regs.readbackMono (r : Regs) : Regs := r.setMono (testBit r.x[Config.CTRL] Config.BIT_MONO)

/-! ### Results (R101, R102, R147) -/

/-- What `respond(OK, result, text)` carries. -/
structure Result where
  /-- `rsp_result`. -/
  value : BitVec 32
  /-- `rsp_text`. -/
  text : List Byte
  deriving DecidableEq, Repr

/-- `respond(OK, 0, "")`. -/
def Regs.noResult (_r : Regs) : Result := ⟨0, []⟩

/-- `respond(OK, zext_32(d.frequency), "")` (R145). -/
def Regs.frequencyResult (r : Regs) : Result := ⟨r.d.frequency.setWidth 32, []⟩

/-- `respond(OK, zext_32(d.rssi), "")` (R201). -/
def Regs.rssiResult (r : Regs) : Result := ⟨r.d.rssi.setWidth 32, []⟩

/-- The GETRADIOINFO result word `{21'b0, d.mono, d.tuned, d.rds, 2'b0, d.rssi}` (R102, R202). -/
def radioInfoWord (d : Derived) : BitVec 32 :=
  (0 : BitVec 21) ++ BitVec.ofBool d.mono ++ BitVec.ofBool d.tuned ++ BitVec.ofBool d.rds ++ (0 : BitVec 2) ++ d.rssi

/-- `respond(OK, …, "")` of GETRADIOINFO (R202). -/
def Regs.radioInfoResult (r : Regs) : Result := ⟨radioInfoWord r.d, []⟩

/-- The ASCII byte of a decimal digit (R147). -/
def digit (n : Nat) : Byte := BitVec.ofNat 8 (0x30 + n)

/-- The decimal numeral of n without leading zeros, "0" for 0, given at least as much fuel as it has digits; `acc` is
what follows it. -/
def decimalAux : Nat → Nat → List Byte → List Byte
  | 0, _, acc => acc
  | fuel + 1, n, acc =>
    if n < 10 then digit n :: acc else decimalAux fuel (n / 10) (digit (n % 10) :: acc)

/-- `dec(q)`: the decimal numeral of a number below 2^16, which has at most five digits (R147). -/
def decimal (q : Nat) : List Byte := decimalAux 5 q []

/-- The suffix " Mhz", four bytes (R147, 90_conflicts.md C17). -/
def mhzSuffix : List Byte := [0x20, 0x4D, 0x68, 0x7A]

/-- `render(n)` (R147). -/
def render (n : Nat) : List Byte :=
  decimal (n / 100) ++ [0x2E, digit (n % 100 / 10), digit (n % 100 % 10)] ++ mhzSuffix

/-- `respond(OK, 0, render(d.frequency))` (R146). -/
def Regs.textResult (r : Regs) : Result := ⟨0, render r.d.frequency.toNat⟩

end Sys2Proof.Machine
end

