-- ==== Sys2Proof/Machine/Ops.lean ====
section
/-! DEFINITION. Machine/Ops.lean: the named operations over State: the micro-steps of spec/00_scope.md R11, the
transport port, the response port, reset, and the taking of an error (spec/60_exceptions.md R230 to R238). -/

namespace Sys2Proof.Machine

open Sys2Proof

/-! ### Micro-steps (R11, R15) -/

/-- One element of a command's sequence. -/
inductive Micro where
  /-- An internal update of the register files. -/
  | update (f : Regs → Regs)
  /-- `WriteReg(a)` = `MemWrite(a, 2, x[a])` (R61). -/
  | writeReg (a : Slot)
  /-- `x[a] <- MemRead(a, 2)` (R62, R67). -/
  | readReg (a : Slot)
  /-- `{x[RA], x[RB]} <- MemReadSeq(4)` (R63, R67). -/
  | readSeq
  /-- `Wait(ms)` (R280). -/
  | wait (ms : Nat)
  /-- `respond(OK, result, text)` (R45, R101). -/
  | respond (result : Regs → Result)

/-! ### Observation record (R17) -/

/-- The state with one more entry in the observation record. -/
def State.observe (s : State) (o : Obs) : State := { s with trace := s.trace ++ [o] }

/-! ### The transport port (R48, R61 to R67) -/

/-- The transport address of a slot (R24, R72). -/
def slotAddr (a : Slot) : Addr := BitVec.ofNat 8 a.val

/-- Issue one transaction: `tx_valid` rises with the request, `seq.step` counts it (R22, R48). -/
def State.issue (s : State) (q : TxReq) : State :=
  { s with seq := { s.seq with step := s.seq.step + 1 }, tx := some q, trace := s.trace ++ [.tx q] }

/-- The request of `WriteReg(a)` (R61). -/
def Regs.writeRequest (r : Regs) (a : Slot) : TxReq := ⟨.write, slotAddr a, r.x[a]⟩

/-- The request of `MemRead(a, 2)` (R62). -/
def readRequest (a : Slot) : TxReq := ⟨.readIdx, slotAddr a, 0⟩

/-- The request of `MemReadSeq(4)` (R63). -/
def burstRequest : TxReq := ⟨.readSeq, 0, 0⟩

/-- `{b0, b1}` of `tx_rdata = {b0, b1, b2, b3}` (R48, R67). -/
def burstRA (rdata : BitVec 32) : Word := rdata.extractLsb' 16 16

/-- `{b2, b3}` of `tx_rdata = {b0, b1, b2, b3}` (R48, R67). -/
def burstRB (rdata : BitVec 32) : Word := rdata.extractLsb' 0 16

/-- The value of an indexed read: `tx_rdata[15:0]` (R48, R62). -/
def readValue (rdata : BitVec 32) : Word := rdata.extractLsb' 0 16

/-- Both halves of a burst into the shadow (R67). -/
def Regs.storeBurst (rdata : BitVec 32) (r : Regs) : Regs :=
  (r.setSlot Config.RA (burstRA rdata)).setSlot Config.RB (burstRB rdata)

/-- What a successful answer stores: nothing for a write, the value for an indexed read, both halves for a burst
(R61 to R63, R67). -/
def Micro.store (m : Micro) (rdata : BitVec 32) (r : Regs) : Regs :=
  match m with
  | .readReg a => r.setSlot a (readValue rdata)
  | .readSeq => r.storeBurst rdata
  | .writeReg _ => r
  | .update _ => r
  | .wait _ => r
  | .respond _ => r

/-- A transaction has been answered with success: its data are stored, `tx_valid` falls, and the next micro-step is at
hand (R61 to R64, R67). -/
def State.answered (s : State) (m : Micro) (rdata : BitVec 32) : State :=
  { s with regs := m.store rdata s.regs, seq := { s.seq with pos := s.seq.pos + 1 }, tx := none }

/-! ### The settling-delay timer (R43, R280) -/

/-- Start a Wait: `seq.timer <- 0`. -/
def State.startWait (s : State) (ms : Nat) : State :=
  { s with seq := { s.seq with timer := 0 }, trace := s.trace ++ [.wait ms] }

/-! ### The response port (R45) -/

/-- The command has ended and its response is pending: `seq.op <- IDLE`, `tx_valid` low (R22, R45). -/
def State.emit (s : State) (r : Response) : State :=
  { s with seq := { s.seq with op := none }, tx := none, rsp := some r, trace := s.trace ++ [.rsp r] }

/-- The response of a command that completed (R101, R231). -/
def okResponse (res : Result) : Response := ⟨0x00, res.value, res.text, 0, 0, 0⟩

/-- The host takes the pending response, and RSEQ is ready for the next command: the return from an error too
(R45, R239). -/
def State.takeResponse (s : State) : State := { s with rsp := none }

/-! ### Errors (R230 to R238) -/

/-- The transport's error kinds (R48, R231). -/
inductive TxError where
  /-- 1: the address was not acknowledged. -/
  | nack
  /-- 2: a timeout. -/
  | timeout
  /-- 3: a bus error, or any other failure. -/
  | bus
  deriving DecidableEq, Repr

/-- The kind of a failing answer; a code that is neither 1 nor 2 is BUS (R231, D24; notes/assumptions/5.md). -/
def TxError.ofBits (err : BitVec 2) : TxError :=
  if err = 1 then .nack else if err = 2 then .timeout else .bus

/-- The transport error code, which is the status code too (R231). -/
def TxError.code : TxError → Byte
  | .nack => 0x01
  | .timeout => 0x02
  | .bus => 0x03

/-- The causes of an error (R230). -/
inductive Cause where
  /-- A transaction failed; `q` is the failing request (R232). -/
  | transport (kind : TxError) (q : TxReq)
  /-- OPC is reserved (R233). -/
  | illegalOpcode
  /-- An operand field is illegal (R234). -/
  | illegalOperand
  /-- A command other than INIT while UNINIT (R237). -/
  | notInitialised
  /-- A command other than INIT while TERMINATED (R237). -/
  | terminated
  deriving DecidableEq, Repr

/-- The status code of a cause (R231). -/
def Cause.status : Cause → Byte
  | .transport kind _ => kind.code
  | .illegalOpcode => 0x10
  | .illegalOperand => 0x11
  | .notInitialised => 0x20
  | .terminated => 0x21

/-- `rsp_err_addr` of a failing request: its address, or A_RA for a burst (R232). -/
def TxReq.errAddr (q : TxReq) : Addr :=
  match q.kind with
  | .write => q.addr
  | .readIdx => q.addr
  | .readSeq => slotAddr Config.RA

/-- The response that reports a cause; `step` is `seq.step` (R101, R231, R232). -/
def Cause.response (c : Cause) (step : Byte) : Response :=
  match c with
  | .transport kind q => ⟨kind.code, 0, [], step, q.errAddr, kind.code⟩
  | .illegalOpcode => ⟨c.status, 0, [], 0, 0, 0⟩
  | .illegalOperand => ⟨c.status, 0, [], 0, 0, 0⟩
  | .notInitialised => ⟨c.status, 0, [], 0, 0, 0⟩
  | .terminated => ⟨c.status, 0, [], 0, 0, 0⟩

/-- The lifecycle rule of an error: a transaction that fails inside INIT sets UNINIT, nothing else changes `life`
(R235 (4), R237). -/
def Cause.lifeAfter (c : Cause) (op : Option Opcode) (life : Life) : Life :=
  match c with
  | .transport _ _ => if op = some .init then .uninit else life
  | .illegalOpcode => life
  | .illegalOperand => life
  | .notInitialised => life
  | .terminated => life

/-- Taking an error, the only form of trap entry (R235): every effect so far stays, the lifecycle rule applies,
`seq.op <- IDLE`, and the one response reports the cause. -/
def State.raise (s : State) (c : Cause) : State :=
  { s with regs := { s.regs with life := c.lifeAfter s.seq.op s.regs.life } }.emit (c.response s.seq.step)

/-- The lifecycle check in front of a command: INIT always passes, every other command needs READY (R42, R237). -/
def lifecycleError (op : Opcode) (life : Life) : Option Cause :=
  if op = .init then none
  else match life with
    | .uninit => some .notInitialised
    | .ready => none
    | .terminated => some .terminated

/-- The error of a word that does not decode (R233, R234). -/
def Cause.ofReject : Reject → Cause
  | .illegalOpcode => .illegalOpcode
  | .illegalOperand => .illegalOperand

/-! ### Reset and acceptance (R22, R46, R260) -/

/-- `rst`: every piece of RSEQ's state takes its reset value, with no response; what the host presents, what is to come
and what has been observed are outside RSEQ (R260 to R262; notes/assumptions/6.md). -/
def State.hardReset (s : State) : State :=
  { State.reset with cmds := s.cmds, inputs := s.inputs, trace := s.trace }

/-- A command is accepted: the sequencer holds its opcode and operands, and no transaction is issued yet (R22, R46). -/
def State.accept (s : State) (op : Opcode) (a b : Int) : State :=
  { s with seq := { s.seq with op := some op, step := 0, argA := a, argB := b, pos := 0 } }

/-- `cmd_ready`: IDLE, and no response pending (R46). -/
def State.cmdReady (s : State) : Bool := s.seq.op.isNone && s.rsp.isNone

end Sys2Proof.Machine
end

