-- ==== Sys2Proof/Machine/Sequencer.lean ====
section
/-! DEFINITION. Machine/Sequencer.lean: how RSEQ runs the body of a command: internal updates at once, transactions
until the transport answers, Waits until the timer has counted them out (spec/20_memory.md R64, R73;
spec/60_exceptions.md R235; spec/70_reset_and_hazards.md R262, R280). The body is a list of micro-steps and `seq.pos`
says which of them is in progress. -/

namespace Sys2Proof.Machine

open Sys2Proof

/-- Run the micro-steps `ms`, which start at `seq.pos`, up to the first one that has to wait for the outside: internal
updates take effect in order (R73), a transaction is issued, a Wait is started, a response ends the command. -/
def runFrom : List Micro → State → State
  | [], s => s
  | .update f :: ms, s => runFrom ms { s with regs := f s.regs, seq := { s.seq with pos := s.seq.pos + 1 } }
  | .writeReg a :: _, s => s.issue (s.regs.writeRequest a)
  | .readReg a :: _, s => s.issue (readRequest a)
  | .readSeq :: _, s => s.issue burstRequest
  | .wait ms :: _, s => s.startWait ms
  | .respond result :: _, s => s.emit (okResponse (result s.regs))

/-- `tick_ms` strobes: they advance `seq.timer` in a Wait, whose successor starts once the timer has reached the bound
(R43, R49, R280); at any other time they change nothing. -/
def onTicks (body : List Micro) (count : Nat) (s : State) : State :=
  match s.tx, body.drop s.seq.pos with
  | none, .wait ms :: rest =>
    if ms ≤ s.seq.timer + count then
      runFrom rest { s with seq := { s.seq with timer := s.seq.timer + count, pos := s.seq.pos + 1 } }
    else { s with seq := { s.seq with timer := s.seq.timer + count } }
  | _, _ => s

/-- The transport's answer to the request in flight: success stores its data and goes on with the next micro-step
(R61 to R64), failure stores nothing and takes the error (R69, R232, R235). With no request in flight it changes
nothing (notes/assumptions/4.md). -/
def onAnswer (body : List Micro) (ok : Bool) (err : BitVec 2) (rdata : BitVec 32) (s : State) : State :=
  match s.tx with
  | none => s
  | some q =>
    if ok then
      match body.drop s.seq.pos with
      | [] => s.observe (.answer ok err rdata)
      | m :: rest => runFrom rest ((s.observe (.answer ok err rdata)).answered m rdata)
    else (s.observe (.answer ok err rdata)).raise (.transport (TxError.ofBits err) q)

/-- One thing the outside does while a command with this body runs. A presented command waits (R46), there is no
response to take, and `rst` aborts the command at once (R262). -/
def onInput (body : List Micro) (e : Input) (s : State) : State :=
  match e with
  | .rst => s.hardReset
  | .cmd w => { s with cmds := s.cmds ++ [w] }
  | .take => s.takeResponse
  | .ticks count => onTicks body count s
  | .tx ok err rdata => onAnswer body ok err rdata s

/-- Let a command with this body run on `es`, what the outside does next, until the command has ended or `es` is used
up; what is left of `es` stays in `inputs`. -/
def drive (body : List Micro) : List Input → State → State
  | [], s => { s with inputs := [] }
  | e :: es, s =>
    match s.seq.op with
    | none => { s with inputs := e :: es }
    | some _ => drive body es (onInput body e s)

/-- A command from its acceptance on: the lifecycle check (R237), then its body on what the outside does. Every command
is this with its own opcode, operands and body. -/
def command (op : Opcode) (a b : Int) (body : List Micro) (s : State) : Host.Outcome State Fault Refusal :=
  match lifecycleError op s.regs.life with
  | some c => .next (s.raise c)
  | none => .next (drive body s.inputs (runFrom body (s.accept op a b)))

/-- One thing the outside does while no command runs: strobes and answers find nothing to act on (R43, R48). -/
def idleInput (e : Input) (s : State) : State :=
  match e with
  | .rst => s.hardReset
  | .cmd w => { s with cmds := s.cmds ++ [w] }
  | .take => s.takeResponse
  | .ticks _ => s
  | .tx _ _ _ => s

/-- A step of RSEQ while no command runs and none can be accepted: the next input, if there is one. -/
def idleStep (s : State) : State :=
  match s.inputs with
  | [] => s
  | e :: es => idleInput e { s with inputs := es }

/-- The word RSEQ accepts now: the one presented, when `cmd_valid` and `cmd_ready` are both 1 (R46). -/
def fetch (s : State) : Option Command := if s.cmdReady then s.cmds.head? else none

/-- The state once the presented word has been accepted: each command is consumed once (R22). -/
def State.dropFetched (s : State) : State := { s with cmds := s.cmds.tail }

/-- The state in which RSEQ is ready and the word is presented: the host's side of the command port (R46). A step of
this state accepts exactly this word. -/
def State.present (s : State) (w : Command) : State :=
  { s with seq := { s.seq with op := none }, tx := none, rsp := none, cmds := w :: s.cmds.tail }

end Sys2Proof.Machine
end

