-- ==== Sys2Proof/Machine/Frequency.lean ====
section
/-! DEFINITION. Machine/Frequency.lean: SETFREQ, GETFREQ, FORMATFREQ (spec/41_frequency.md R140 to R147). -/

namespace Sys2Proof.Machine

open Sys2Proof

/-- SETFREQ without its response (R140). -/
def setfreqCore (freq : Int) : List Micro :=
  [.update fun r =>
     r.setBits Config.CTRL (Config.BIT_OUTPUT ||| Config.BIT_UNMUTE ||| Config.BIT_RDS ||| Config.BIT_ENABLE),
   .writeReg Config.CTRL,
   .update fun r => r.setSlot Config.CHAN (tuneValue freq),
   .writeReg Config.CHAN,
   .wait Config.tuneSettleMs,
   .writeReg Config.VOL,
   .wait Config.volSettleMs,
   .readSeq,
   .update Regs.readbackFrequency]

/-- The body of SETFREQ (R140). -/
def setfreqBody (freq : Int) : List Micro := setfreqCore freq ++ [.respond Regs.noResult]

/-- SETFREQ freq (R140). -/
def execSetfreq (freq : Int) (s : State) : Host.Outcome State Fault Refusal :=
  command .setfreq freq 0 (setfreqBody freq) s

/-- GETFREQ without its response (R145). -/
def getfreqCore : List Micro := [.readSeq, .update Regs.readbackFrequency]

/-- The body of GETFREQ (R145). -/
def getfreqBody : List Micro := getfreqCore ++ [.respond Regs.frequencyResult]

/-- GETFREQ (R145). -/
def execGetfreq (s : State) : Host.Outcome State Fault Refusal :=
  command .getfreq 0 0 getfreqBody s

/-- The body of FORMATFREQ: no transaction and no Wait (R146). -/
def formatfreqBody : List Micro := [.respond Regs.textResult]

/-- FORMATFREQ (R146). -/
def execFormatfreq (s : State) : Host.Outcome State Fault Refusal :=
  command .formatfreq 0 0 formatfreqBody s

end Sys2Proof.Machine
end

