-- ==== Sys2Proof/Machine/BandSeek.lean ====
section
/-! DEFINITION. Machine/BandSeek.lean: SETBAND, SEEKUP, SEEKDOWN (spec/43_band_seek.md R180 to R183). -/

namespace Sys2Proof.Machine

open Sys2Proof

/-- The body of SETBAND: the whole of CHAN is replaced (R180). -/
def setbandBody (band : Band) : List Micro :=
  [.update (Regs.setBand band),
   .update fun r => r.setSlot Config.CHAN (bandValue band),
   .writeReg Config.CHAN,
   .respond Regs.noResult]

/-- SETBAND band (R180). -/
def execSetband (band : Band) (s : State) : Host.Outcome State Fault Refusal :=
  command .setband (bandArg band) 0 (setbandBody band) s

/-- What SEEKUP and SEEKDOWN do once the direction bit stands (R181, R182). -/
def seekTail : List Micro :=
  [.update fun r => r.setBits Config.CTRL Config.BIT_SEEK,
   .writeReg Config.CTRL,
   .wait Config.seekWaitMs] ++ getfreqCore ++
  [.update fun r => r.clearBits Config.CTRL Config.BIT_SEEK,
   .writeReg Config.CTRL,
   .respond Regs.noResult]

/-- The body of SEEKUP (R181). -/
def seekupBody : List Micro := (.update fun r => r.setBits Config.CTRL Config.BIT_SEEKUP) :: seekTail

/-- SEEKUP (R181). -/
def execSeekup (s : State) : Host.Outcome State Fault Refusal :=
  command .seekup 0 0 seekupBody s

/-- The body of SEEKDOWN (R182). -/
def seekdownBody : List Micro := (.update fun r => r.clearBits Config.CTRL Config.BIT_SEEKUP) :: seekTail

/-- SEEKDOWN (R182). -/
def execSeekdown (s : State) : Host.Outcome State Fault Refusal :=
  command .seekdown 0 0 seekdownBody s

end Sys2Proof.Machine
end

