-- ==== Sys2Proof/Machine/Controls.lean ====
section
/-! DEFINITION. Machine/Controls.lean: SETBASS, SETMONO, SETMUTE, SETSOFTMUTE, SETVOLUME (spec/42_controls.md R160 to
R165). A `…Core` is the body a sub-sequence call runs (R12); the `…Body` adds the response. -/

namespace Sys2Proof.Machine

open Sys2Proof

/-- SETBASS without its response (R160). -/
def setbassCore (b : Bool) : List Micro :=
  [.update (Regs.setBassBoost b),
   .update fun r => r.toggleBits Config.CTRL Config.BIT_BASS b,
   .writeReg Config.CTRL]

/-- The body of SETBASS (R160). -/
def setbassBody (b : Bool) : List Micro := setbassCore b ++ [.respond Regs.noResult]

/-- SETBASS b (R160). -/
def execSetbass (b : Bool) (s : State) : Host.Outcome State Fault Refusal :=
  command .setbass (boolArg b) 0 (setbassBody b) s

/-- The body of SETMONO: SEEK is cleared first, whatever b is (R161). -/
def setmonoBody (b : Bool) : List Micro :=
  [.update (Regs.setMono b),
   .update fun r => r.clearBits Config.CTRL Config.BIT_SEEK,
   .update fun r => r.toggleBits Config.CTRL Config.BIT_MONO b,
   .writeReg Config.CTRL,
   .respond Regs.noResult]

/-- SETMONO b (R161). -/
def execSetmono (b : Bool) (s : State) : Host.Outcome State Fault Refusal :=
  command .setmono (boolArg b) 0 (setmonoBody b) s

/-- The body of SETMUTE: muting clears UNMUTE (R162). -/
def setmuteBody (m : Bool) : List Micro :=
  [.update (Regs.setMute m),
   .update fun r => r.toggleBits Config.CTRL Config.BIT_UNMUTE (!m),
   .writeReg Config.CTRL,
   .respond Regs.noResult]

/-- SETMUTE m (R162). -/
def execSetmute (m : Bool) (s : State) : Host.Outcome State Fault Refusal :=
  command .setmute (boolArg m) 0 (setmuteBody m) s

/-- The body of SETSOFTMUTE, the one toggle in R4 (R163). -/
def setsoftmuteBody (b : Bool) : List Micro :=
  [.update (Regs.setSoftMute b),
   .update fun r => r.toggleBits Config.R4 Config.BIT_SOFTMUTE b,
   .writeReg Config.R4,
   .respond Regs.noResult]

/-- SETSOFTMUTE b (R163). -/
def execSetsoftmute (b : Bool) (s : State) : Host.Outcome State Fault Refusal :=
  command .setsoftmute (boolArg b) 0 (setsoftmuteBody b) s

/-- `x[VOL] <- (x[VOL] & 0xFFF0) | zext_16(v)`: clear, then set, bits 3:0 (R164). -/
def Regs.setVolField (v : BitVec 4) (r : Regs) : Regs :=
  r.setSlot Config.VOL (r.x[Config.VOL] &&& ~~~Config.VOL_FIELD ||| v.setWidth 16)

/-- SETVOLUME without its response (R164). -/
def setvolumeCore (vol : Int) : List Micro :=
  [.update (Regs.setVolume (clampVolume vol)),
   .update (Regs.setVolField (clampVolume vol)),
   .writeReg Config.VOL]

/-- The body of SETVOLUME (R164). -/
def setvolumeBody (vol : Int) : List Micro := setvolumeCore vol ++ [.respond Regs.noResult]

/-- SETVOLUME vol (R164). -/
def execSetvolume (vol : Int) (s : State) : Host.Outcome State Fault Refusal :=
  command .setvolume vol 0 (setvolumeBody vol) s

end Sys2Proof.Machine
end

