-- ==== Sys2Proof/Machine/Init.lean ====
section
/-! DEFINITION. Machine/Init.lean: INIT and its sub-sequences SETUP and TUNE (spec/40_init.md R120 to R124). -/

namespace Sys2Proof.Machine

open Sys2Proof

/-- `reset_state()`: every field of `x`, `d` and `life` to its reset value (R120). -/
def resetState (_r : Regs) : Regs := Regs.reset

/-- SETUP, the power-on register sequence (R121). -/
def setupCore : List Micro :=
  [.update fun r => r.setSlot Config.CHIPID Config.chipidValue,
   .update fun r =>
     r.setSlot Config.CTRL (Config.BIT_RESET ||| Config.BIT_ENABLE ||| Config.BIT_UNMUTE ||| Config.BIT_OUTPUT),
   .writeReg Config.CTRL,
   .update fun r => r.setSlot Config.VOL Config.volDefault,
   .writeReg Config.VOL,
   .update fun r =>
     r.setSlot Config.CTRL
       (Config.BIT_ENABLE ||| Config.BIT_NEW ||| Config.BIT_RDS ||| Config.BIT_UNMUTE ||| Config.BIT_OUTPUT),
   .writeReg Config.CTRL] ++ setbassCore true ++
  [.update (Regs.setRds true),
   .update (Regs.setMute false)]

/-- TUNE (R122). -/
def tuneCore (f0 v0 : Int) : List Micro :=
  setfreqCore f0 ++ setvolumeCore v0 ++ [.update (Regs.setTuned true)]

/-- The body of INIT (R120). -/
def initBody (f0 v0 : Int) : List Micro :=
  [.update resetState] ++ setupCore ++ tuneCore f0 v0 ++
  [.update (Regs.setLife .ready), .respond Regs.noResult]

/-- INIT f0, v0 (R120). -/
def execInit (f0 v0 : Int) (s : State) : Host.Outcome State Fault Refusal :=
  command .init f0 v0 (initBody f0 v0) s

end Sys2Proof.Machine
end

