-- ==== Sys2Proof/Machine/ResetStatus.lean ====
section
/-! DEFINITION. Machine/ResetStatus.lean: SOFTRESET, GETRSSI, GETRADIOINFO, TERM (spec/44_reset_status.md R200 to
R204). -/

namespace Sys2Proof.Machine

open Sys2Proof

/-- The body of SOFTRESET (R200). -/
def softresetBody : List Micro :=
  [.update fun r => r.setBits Config.CTRL Config.BIT_RESET,
   .writeReg Config.CTRL,
   .wait Config.resetHoldMs,
   .update fun r => r.clearBits Config.CTRL Config.BIT_RESET,
   .writeReg Config.CTRL,
   .respond Regs.noResult]

/-- SOFTRESET (R200). -/
def execSoftreset (s : State) : Host.Outcome State Fault Refusal :=
  command .softreset 0 0 softresetBody s

/-- The body of GETRSSI, the one use of the indexed read (R201). -/
def getrssiBody : List Micro :=
  [.readReg Config.RB, .update Regs.readbackRssi, .respond Regs.rssiResult]

/-- GETRSSI (R201). -/
def execGetrssi (s : State) : Host.Outcome State Fault Refusal :=
  command .getrssi 0 0 getrssiBody s

/-- The body of GETRADIOINFO (R202). -/
def getradioinfoBody : List Micro :=
  [.readSeq,
   .update Regs.readbackRds,
   .update Regs.readbackRssi,
   .update Regs.readbackTuned,
   .update Regs.readbackMono,
   .respond Regs.radioInfoResult]

/-- GETRADIOINFO (R202). -/
def execGetradioinfo (s : State) : Host.Outcome State Fault Refusal :=
  command .getradioinfo 0 0 getradioinfoBody s

/-- TERM's bulk write of registers 2 to 7, in ascending order (R203). -/
def flushCore : List Micro :=
  [.writeReg 0x2, .writeReg 0x3, .writeReg 0x4, .writeReg 0x5, .writeReg 0x6, .writeReg 0x7]

/-- The body of TERM with TERM_FLUSH = `flush` (R203, R204). -/
def termBody (flush : Bool) : List Micro :=
  setvolumeCore 0 ++ [.update fun r => r.setSlot Config.CTRL 0x0000] ++ (if flush then flushCore else []) ++
  [.update (Regs.setLife .terminated), .respond Regs.noResult]

/-- TERM (R203). -/
def execTerm (s : State) : Host.Outcome State Fault Refusal :=
  command .term 0 0 (termBody Config.termFlush) s

end Sys2Proof.Machine
end

