-- ==== Sys2Proof/Machine/Dispatch.lean ====
section
/-! DEFINITION. Machine/Dispatch.lean: one arm per command (spec/30_encoding.md R95). -/

namespace Sys2Proof.Machine

open Sys2Proof

def exec (i : Instr) (s : State) : Host.Outcome State Fault Refusal :=
  match i with
  | .init f0 v0 => Sys2Proof.Machine.execInit f0 v0 s
  | .term => Sys2Proof.Machine.execTerm s
  | .setfreq freq => Sys2Proof.Machine.execSetfreq freq s
  | .getfreq => Sys2Proof.Machine.execGetfreq s
  | .formatfreq => Sys2Proof.Machine.execFormatfreq s
  | .setbass b => Sys2Proof.Machine.execSetbass b s
  | .setmono b => Sys2Proof.Machine.execSetmono b s
  | .setmute m => Sys2Proof.Machine.execSetmute m s
  | .setsoftmute b => Sys2Proof.Machine.execSetsoftmute b s
  | .setvolume vol => Sys2Proof.Machine.execSetvolume vol s
  | .setband band => Sys2Proof.Machine.execSetband band s
  | .seekup => Sys2Proof.Machine.execSeekup s
  | .seekdown => Sys2Proof.Machine.execSeekdown s
  | .softreset => Sys2Proof.Machine.execSoftreset s
  | .getrssi => Sys2Proof.Machine.execGetrssi s
  | .getradioinfo => Sys2Proof.Machine.execGetradioinfo s

end Sys2Proof.Machine
end

