-- ==== Sys2Proof/Machine/Program.lean ====
section
/-! DEFINITION. Machine/Program.lean: the body of the running command, from what the sequencer holds: `seq.op` and
`seq.args` (spec/10_state.md R22), and the step of RSEQ while a command runs. -/

namespace Sys2Proof.Machine

open Sys2Proof

/-- The operands of a command as `seq.args` holds them (R22). -/
def commandArgs : Instr → Int × Int
  | .init f0 v0 => (f0, v0)
  | .setfreq freq => (freq, 0)
  | .setvolume vol => (vol, 0)
  | .setbass b => (boolArg b, 0)
  | .setmono b => (boolArg b, 0)
  | .setmute m => (boolArg m, 0)
  | .setsoftmute b => (boolArg b, 0)
  | .setband band => (bandArg band, 0)
  | .term => (0, 0)
  | .getfreq => (0, 0)
  | .formatfreq => (0, 0)
  | .seekup => (0, 0)
  | .seekdown => (0, 0)
  | .softreset => (0, 0)
  | .getrssi => (0, 0)
  | .getradioinfo => (0, 0)

/-- The expanded body of the running command (R22, R95). -/
def bodyOf (op : Opcode) (a b : Int) : List Micro :=
  match op with
  | .init => initBody a b
  | .term => termBody Config.termFlush
  | .setfreq => setfreqBody a
  | .getfreq => getfreqBody
  | .formatfreq => formatfreqBody
  | .setbass => setbassBody (argBool a)
  | .setmono => setmonoBody (argBool a)
  | .setmute => setmuteBody (argBool a)
  | .setsoftmute => setsoftmuteBody (argBool a)
  | .setvolume => setvolumeBody a
  | .setband => setbandBody (argBand a)
  | .seekup => seekupBody
  | .seekdown => seekdownBody
  | .softreset => softresetBody
  | .getrssi => getrssiBody
  | .getradioinfo => getradioinfoBody

/-- A step of RSEQ while the command `op` runs: it goes on with what the outside does next (R64, R73). -/
def resume (op : Opcode) (s : State) : State :=
  drive (bodyOf op s.seq.argA s.seq.argB) s.inputs s

/-- The word the host's table check presents: the low `nbits` bits of w as a command word. -/
def tableWord (nbits w : Nat) : Command := BitVec.ofNat 72 (w % 2 ^ nbits)

end Sys2Proof.Machine
end

