-- ==== Sys2Proof/Machine/Step.lean ====
section
/-! DEFINITION. Machine/Step.lean: one step of RSEQ. A step accepts and runs the presented command, or goes on with the
running one, or takes one input while there is nothing to run (spec/10_state.md R22, R46). -/

namespace Sys2Proof.Machine

open Sys2Proof

/-- One step: a running command goes on; otherwise a presented word is accepted as soon as no response is pending,
decoded, and run or reported as illegal; otherwise the next input is taken. -/
def step (s : State) : Host.Outcome State Fault Refusal :=
  match s.seq.op with
  | some op => .next (resume op s)
  | none =>
    match fetch s with
    | none => .next (idleStep s)
    | some w =>
      match decode w with
      | .command i => exec i s.dropFetched
      | .reject r => .next (s.dropFetched.raise (Cause.ofReject r))

/-- The state s with the word that the low `nbits` bits of w give presented at the command port, and RSEQ ready to
accept it (notes/assumptions/1.md). -/
def State.withFetchWord (s : State) (nbits w : Nat) : State := s.present (tableWord nbits w)

end Sys2Proof.Machine
end

