-- ==== Sys2Proof/Machine/Ports.lean ====
section
/-! DEFINITION. Machine/Ports.lean: what RSEQ drives on its ports, read off the state (spec/10_state.md R45 to R48), and
what an observer may see (spec/00_scope.md R17, R47). -/

namespace Sys2Proof.Machine

open Sys2Proof

/-- The code of `life` on `o_life[1:0]` (R47). -/
def Life.code : Life → BitVec 2
  | .uninit => 0
  | .ready => 1
  | .terminated => 2

/-- The code of a band on `o_band` (R36). -/
def Band.code : Band → BitVec 1
  | .fm => 0
  | .fmworld => 1

/-- The code of `tx_kind` (R48). The width of two bits is a DESIGN CHOICE: R48 gives the codes 0, 1 and 2 and no width
(notes/assumptions/23.md). -/
def TxKind.code : TxKind → BitVec 2
  | .write => 0
  | .readIdx => 1
  | .readSeq => 2

/-- `rsp_text_len[4:0]` (R45). -/
def Response.textLen (r : Response) : BitVec 5 := BitVec.ofNat 5 r.text.length

/-- `rsp_valid` (R45). -/
def State.rspValid (s : State) : Bool := s.rsp.isSome

/-- `tx_valid` (R48). -/
def State.txValid (s : State) : Bool := s.tx.isSome

/-- `cmd_valid` (R46). -/
def State.cmdValid (s : State) : Bool := !s.cmds.isEmpty

/-- `o_busy`: 1 exactly when `seq.op` is not IDLE (R47). -/
def State.oBusy (s : State) : Bool := s.seq.op.isSome

/-- The bytes the transport sends for a write, high byte first (R65). -/
def TxReq.wireBytes (q : TxReq) : List Byte := [q.wdata.extractLsb' 8 8, q.wdata.extractLsb' 0 8]

/-- The derived-state outputs (R47). -/
structure Outputs where
  /-- `o_frequency[15:0]`. -/
  frequency : BitVec 16
  /-- `o_volume[3:0]`. -/
  volume : BitVec 4
  /-- `o_bass`. -/
  bass : Bool
  /-- `o_mute`. -/
  mute : Bool
  /-- `o_softmute`. -/
  softmute : Bool
  /-- `o_mono`. -/
  mono : Bool
  /-- `o_rds`. -/
  rds : Bool
  /-- `o_tuned`. -/
  tuned : Bool
  /-- `o_band`. -/
  band : BitVec 1
  /-- `o_rssi[5:0]`. -/
  rssi : BitVec 6
  /-- `o_life[1:0]`. -/
  life : BitVec 2
  deriving DecidableEq, Repr

/-- The outputs, driven continuously (R47). -/
def State.outputs (s : State) : Outputs where
  frequency := s.regs.d.frequency
  volume := s.regs.d.volume
  bass := s.regs.d.bassBoost
  mute := s.regs.d.mute
  softmute := s.regs.d.softMute
  mono := s.regs.d.mono
  rds := s.regs.d.rds
  tuned := s.regs.d.tuned
  band := Band.code s.regs.d.band
  rssi := s.regs.d.rssi
  life := s.regs.life.code

/-- The outputs as an observation: none while a command runs, when their values are not defined (R47). -/
def State.observation (s : State) : Option Outputs := if s.oBusy then none else some s.outputs

end Sys2Proof.Machine
end

