-- ==== Sys2Proof/Safety.lean ====
section
/-! DEFINITION. Safety.lean: the terms the statements use: what it is for a command to complete or to fail, and the
invariants of RSEQ's state. -/

namespace Sys2Proof.Machine

open Sys2Proof

/-! ### How a command ends -/

/-- `exec i s` answers a next state in which the command has completed: the register files are `regs`, the pending
response is OK with result `res`, `seq.op` is IDLE with `step` transactions counted, no request is on the transport
port, the presented commands are untouched, `rest` is left of the inputs, and the observation record has grown by `seen`
and the response. It says everything of the next state but the timer, the operand registers and the micro-step position,
which mean nothing while IDLE. -/
def Completes (i : Instr) (s : State) (regs : Regs) (res : Result) (step : Byte) (seen : List Obs)
    (rest : List Input) : Prop :=
  ∃ t : State, exec i s = .next t ∧ t.regs = regs ∧ t.rsp = some (okResponse res) ∧ t.seq.op = none ∧
    t.seq.step = step ∧ t.tx = none ∧ t.cmds = s.cmds ∧ t.inputs = rest ∧
    t.trace = s.trace ++ seen ++ [.rsp (okResponse res)]

/-- `exec i s` answers a next state in which the command has ended with the error response `r`. -/
def FailsWith (i : Instr) (s : State) (regs : Regs) (r : Response) (seen : List Obs) (rest : List Input) : Prop :=
  ∃ t : State, exec i s = .next t ∧ t.regs = regs ∧ t.rsp = some r ∧ t.seq.op = none ∧ t.tx = none ∧
    t.cmds = s.cmds ∧ t.inputs = rest ∧ t.trace = s.trace ++ seen ++ [.rsp r]

/-! ### What the outside does -/

/-- The total of the strobes among the inputs. -/
def strobes : List Input → Nat
  | [] => 0
  | .ticks count :: es => count + strobes es
  | .rst :: es => strobes es
  | .cmd _ :: es => strobes es
  | .take :: es => strobes es
  | .tx _ _ _ :: es => strobes es

/-- The words the inputs present. -/
def presented : List Input → List Command
  | [] => []
  | .cmd w :: es => w :: presented es
  | .rst :: es => presented es
  | .take :: es => presented es
  | .ticks _ :: es => presented es
  | .tx _ _ _ :: es => presented es

/-- The input is a reset. -/
def Input.isRst : Input → Bool
  | .rst => true
  | .cmd _ => false
  | .take => false
  | .ticks _ => false
  | .tx _ _ _ => false

/-- The input is an answer of the transport. -/
def Input.isTx : Input → Bool
  | .tx _ _ _ => true
  | .rst => false
  | .cmd _ => false
  | .take => false
  | .ticks _ => false

/-! ### Runs and fairness (R64, R282) -/

/-- The state after one step; a step always answers one (R230, R239). -/
def onward (s : State) : State :=
  match step s with
  | .next t => t
  | .fault _ => s
  | .refused _ => s

/-- The state after n steps from s, where `env k` is what the outside adds to the inputs before the step from the k-th
state on: time is the order of these events and nothing else (R282). -/
def runOn (env : Nat → List Input) (s : State) : Nat → State
  | 0 => s
  | n + 1 => onward { runOn env s n with inputs := (runOn env s n).inputs ++ env n }

/-- The strobes the outside adds in the k steps from the n-th state on. -/
def strobesFrom (env : Nat → List Input) (n : Nat) : Nat → Nat
  | 0 => 0
  | k + 1 => strobesFrom env n k + strobes (env (n + k))

/-- A command is in a Wait: it runs and has no request on the transport port (R22, R280). -/
def State.inWait (s : State) : Bool := s.seq.op.isSome && s.tx.isNone

/-- The fairness assumption of R282 about what the outside does in the run from s: a transaction on the port eventually
gets an answer, and a Wait eventually completes, since the strobes that come from its start on reach every bound. A
statement that a command ends has it as a hypothesis; no step depends on it. -/
structure Fair (env : Nat → List Input) (s : State) : Prop where
  /-- Every transaction eventually gets an answer. -/
  answers : ∀ n, (runOn env s n).tx.isSome = true → ∃ k, (env (n + k)).any Input.isTx = true
  /-- Every Wait eventually completes. -/
  strobe : ∀ n bound, (runOn env s n).inWait = true → ∃ k, bound ≤ strobesFrom env n k

/-! ### The observation record (R17) -/

/-- The responses of an observation record. -/
def responses : List Obs → List Response
  | [] => []
  | .rsp r :: os => r :: responses os
  | .tx _ :: os => responses os
  | .answer _ _ _ :: os => responses os
  | .wait _ :: os => responses os

/-! ### Bodies -/

/-- The micro-step is a transport transaction. -/
def Micro.isTransaction : Micro → Bool
  | .writeReg _ => true
  | .readReg _ => true
  | .readSeq => true
  | .update _ => false
  | .wait _ => false
  | .respond _ => false

/-- How many transactions a list of micro-steps issues. -/
def transactionCount (ms : List Micro) : Nat := (ms.filter Micro.isTransaction).length

/-! ### Invariants -/

/-- The bits of the shadow that no operation ever sets (R28, R29, R30), the values R4 can hold (R31), and the slots that
keep their reset value (R35). -/
def ShadowLegal (r : Regs) : Prop :=
  r.x[Config.CTRL] &&& Config.CTRL_UNNAMED = 0 ∧
  r.x[Config.CHAN] &&& (Config.CHAN_UNNAMED ||| 0x0003) = 0 ∧
  (r.x[Config.R4] = 0x0000 ∨ r.x[Config.R4] = 0x0200) ∧
  r.x[(0x1 : Slot)] = 0 ∧ r.x[(0x6 : Slot)] = 0 ∧ r.x[(0x7 : Slot)] = 0 ∧ r.x[(0x8 : Slot)] = 0 ∧
  r.x[(0x9 : Slot)] = 0 ∧ r.x[(0xC : Slot)] = 0 ∧ r.x[(0xD : Slot)] = 0 ∧ r.x[(0xE : Slot)] = 0 ∧
  r.x[(0xF : Slot)] = 0

/-- A request RSEQ puts on the transport: the write of a register 2 to 7 with the shadow's own value, the indexed read of
RB, or the burst (R60 to R63). -/
def RequestLegal (r : Regs) (q : TxReq) : Prop :=
  (∃ a : Slot, 2 ≤ a.val ∧ a.val ≤ 7 ∧ q = ⟨.write, BitVec.ofNat 8 a.val, r.x[a]⟩) ∨
  q = ⟨.readIdx, 0x0B, 0⟩ ∨ q = ⟨.readSeq, 0x00, 0⟩

/-- The ports agree with the sequencer: a request is in flight only while a command runs, no response is pending then,
and the request is legal (R45, R60 to R64, R74). -/
def PortsLegal (s : State) : Prop :=
  (s.seq.op = none → s.tx = none) ∧ (s.seq.op ≠ none → s.rsp = none) ∧
  ∀ q, s.tx = some q → RequestLegal s.regs q

/-- A response RSEQ emits: OK without error fields, a transport error that names its kind, or a decode or lifecycle error
without error fields, every error without result and text (R45, R101, R231). -/
def ResponseLegal (r : Response) : Prop :=
  (r.status = 0x00 ∧ r.text.length ≤ 16 ∧ r.errStep = 0 ∧ r.errAddr = 0 ∧ r.errKind = 0) ∨
  ((r.status = 0x01 ∨ r.status = 0x02 ∨ r.status = 0x03) ∧ r.errKind = r.status ∧ r.result = 0 ∧ r.text = []) ∨
  ((r.status = 0x10 ∨ r.status = 0x11 ∨ r.status = 0x20 ∨ r.status = 0x21) ∧
    r.errStep = 0 ∧ r.errAddr = 0 ∧ r.errKind = 0 ∧ r.result = 0 ∧ r.text = [])

/-- The pending response is legal. -/
def PendingLegal (s : State) : Prop := ∀ r, s.rsp = some r → ResponseLegal r

/-- A running command is in the middle of a transaction, whose request is on the port, or of a Wait that has not counted
out, and `seq.step` counts its transactions, the one in flight included (R22, R64, R280). -/
def InProgress (body : List Micro) (s : State) : Prop :=
  s.seq.step = BitVec.ofNat 8 (transactionCount (body.take s.seq.pos) + (if s.tx.isSome then 1 else 0)) ∧
  match body[s.seq.pos]? with
  | some (.writeReg a) => s.tx = some (s.regs.writeRequest a)
  | some (.readReg a) => s.tx = some (readRequest a)
  | some .readSeq => s.tx = some burstRequest
  | some (.wait ms) => s.tx = none ∧ s.seq.timer < ms
  | some (.update _) => False
  | some (.respond _) => False
  | none => False

/-- RSEQ is IDLE with no request on the port, or in progress in the body of its command (R22). -/
def SequencerLegal (s : State) : Prop :=
  match s.seq.op with
  | none => s.tx = none
  | some op => InProgress (bodyOf op s.seq.argA s.seq.argB) s

/-- What holds of the register files of a READY RSEQ (R25, R31, R32, R37, R38). -/
def ReadyFacts (r : Regs) : Prop :=
  r.x[Config.CHIPID] = 0x0058 ∧
  r.x[Config.VOL] = 0x84D0 ||| r.d.volume.setWidth 16 ∧
  r.x[Config.R4] = (if r.d.softMute then 0x0200 else 0x0000) ∧
  ∃ k : Nat, k ≤ 1023 ∧ r.d.frequency.toNat = 8700 + 10 * k

/-- What INIT has established when it is in progress at micro-step `pos` of its body: it runs UNINIT, and VOL and
`d.frequency` have their values from the micro-steps that write them on (R120 to R122). -/
def InitFacts (pos : Nat) (r : Regs) : Prop :=
  r.life = .uninit ∧ r.x[Config.CHIPID] = 0x0058 ∧ r.x[Config.R4] = 0x0000 ∧ r.d.softMute = false ∧
  (5 ≤ pos → r.x[Config.VOL] &&& ~~~Config.VOL_FIELD = 0x84D0) ∧
  (22 ≤ pos → ∃ k : Nat, k ≤ 1023 ∧ r.d.frequency.toNat = 8700 + 10 * k) ∧
  (24 ≤ pos → r.x[Config.VOL] = 0x84D0 ||| r.d.volume.setWidth 16)

/-- The sequencer is legal, a READY RSEQ has the register files INIT leaves, up to what later commands may change, and a
running INIT is on the way there (R32, R37, R38, R42, R51). -/
def ReadyLegal (s : State) : Prop :=
  SequencerLegal s ∧ (s.regs.life = .ready → ReadyFacts s.regs) ∧ (s.seq.op = some .init → InitFacts s.seq.pos s.regs)

end Sys2Proof.Machine
end

