-- ==== Sys2Proof/Certificates/Slice0/Obligations.lean ====
section
/-! DEFINITION. Certificates/Slice0/Obligations.lean: the statements about RSEQ, from the numbered rules of spec/.
Masks, addresses and codes stand here as the rules' own numbers. `inputs`, what the outside does next, and `trace`, what
has been observed, are the model's record of the ports (notes/assumptions/1.md, notes/assumptions/13.md). -/

open Sys2Proof Sys2Proof.Machine

/-! ### Encoding (R90 to R97) -/

/-- R90, R92, R93, R95: decoding the word of a well-formed command gives the command back, with every operand at every
value its field holds. -/
def Obligations.DecodeEncodeRoundTrip : Prop :=
  ∀ i : Instr, i.wellFormed = true → decode (encode i) = .command i

/-- R92, R96 (decision D3: "requiring zeros keeps every encoding unique"): a word that decodes to a command is the one
encoding of that command, and the command is well-formed. -/
def Obligations.DecodedWordIsTheEncoding : Prop :=
  ∀ (w : Command) (i : Instr), decode w = .command i → i.wellFormed = true ∧ encode i = w

/-- A selection of eight words that the spec writes out, at least one for each group of R95, decode to the commands they
stand for: R99 (INIT 10250, 3; SETFREQ 99999; SETMONO on; SETVOLUME -5), and in spec/95_test_vectors.md V-D13
(SETFREQ -1), P3 (SEEKUP, GETRADIOINFO) and P5 (SETBAND FMWORLD). -/
def Obligations.WrittenOutWordsDecode : Prop :=
  decode 0x010000280A00000003 = .command (.init 10250 3) ∧
  decode 0x100001869F00000000 = .command (.setfreq 99999) ∧
  decode 0x10FFFFFFFF00000000 = .command (.setfreq (-1)) ∧
  decode 0x210000000100000000 = .command (.setmono true) ∧
  decode 0x24FFFFFFFB00000000 = .command (.setvolume (-5)) ∧
  decode 0x300000000100000000 = .command (.setband .fmworld) ∧
  decode 0x310000000000000000 = .command .seekup ∧
  decode 0x420000000000000000 = .command .getradioinfo

/-- R97, R233: a word with a reserved OPC is illegal,
  and only such a word is ILLEGAL_OPCODE; whatever the lifecycle, the
step that accepts it emits the response 0x10 and changes nothing else of RSEQ. -/
def Obligations.ReservedOpcodeIsReported : Prop :=
  ∀ w : Command,
    (decode w = .reject .illegalOpcode ↔
      let opc := w.toNat / 2 ^ 64
      opc = 0x00 ∨ (0x03 ≤ opc ∧ opc ≤ 0x0F) ∨ (0x13 ≤ opc ∧ opc ≤ 0x1F) ∨ (0x25 ≤ opc ∧ opc ≤ 0x2F) ∨
        (0x33 ≤ opc ∧ opc ≤ 0x3F) ∨ (0x43 ≤ opc ∧ opc ≤ 0xFF)) ∧
    ∀ (s : State) (ws : List Command), s.seq.op = none → s.rsp = none → s.tx = none → s.cmds = w :: ws →
      decode w = .reject .illegalOpcode →
      step s = .next { s with
        rsp := some ⟨0x10, 0, [], 0, 0, 0⟩, cmds := ws, trace := s.trace ++ [.rsp ⟨0x10, 0, [], 0, 0, 0⟩] }

/-- R94, R234: a word with an assigned OPC is illegal exactly when a required-zero field is not zero or a bool or band
field is neither 0 nor 1,
  so an int field never makes it so; the step that accepts it emits the response 0x11 and changes
nothing else of RSEQ. -/
def Obligations.IllegalOperandIsReported : Prop :=
  ∀ w : Command,
    (decode w = .reject .illegalOperand ↔
      let opc := w.toNat / 2 ^ 64
      let a := w.toNat / 2 ^ 32 % 2 ^ 32
      let b := w.toNat % 2 ^ 32
      (opc ∈ [0x02, 0x11, 0x12, 0x31, 0x32, 0x40, 0x41, 0x42] ∧ (a ≠ 0 ∨ b ≠ 0)) ∨
        (opc ∈ [0x10, 0x24] ∧ b ≠ 0) ∨
        (opc ∈ [0x20, 0x21, 0x22, 0x23, 0x30] ∧ (b ≠ 0 ∨ 2 ≤ a))) ∧
    ∀ (s : State) (ws : List Command), s.seq.op = none → s.rsp = none → s.tx = none → s.cmds = w :: ws →
      decode w = .reject .illegalOperand →
      step s = .next { s with
        rsp := some ⟨0x11, 0, [], 0, 0, 0⟩, cmds := ws, trace := s.trace ++ [.rsp ⟨0x11, 0, [], 0, 0, 0⟩] }

/-! ### The step -/

/-- R22, R46: when RSEQ is IDLE with no response pending and the presented word decodes to a command, the step is that
command at the state in which the word has been consumed. -/
def Obligations.StepRunsThePresentedCommand : Prop :=
  ∀ (s : State) (w : Command) (ws : List Command) (i : Instr),
    s.seq.op = none → s.rsp = none → s.cmds = w :: ws → decode w = .command i →
    step s = exec i { s with cmds := ws }

/-- R230, R239: every step of every state answers a next state; nothing stops RSEQ. -/
def Obligations.EveryStepAnswersANextState : Prop :=
  ∀ s : State, ∃ t : State, step s = .next t

/-- R46: while a command runs or its response is pending, no presented word is consumed: a step only takes inputs from
the front of what is to come,
  and the words among them queue behind those that wait. That a reset among the inputs leaves
the presented words waiting is the model's reading (notes/assumptions/6.md); that they form a queue is too
(notes/assumptions/20.md). -/
def Obligations.PresentedCommandsWait : Prop :=
  ∀ s t : State, (s.seq.op ≠ none ∨ s.rsp ≠ none) → step s = .next t →
    ∃ used : List Input, s.inputs = used ++ t.inputs ∧ t.cmds = s.cmds ++ presented used

/-- R64: when the transport answers and when time passes does not matter beyond the order of events: a running command
that has used up its inputs and gets more later does what it does with all of them at once. -/
def Obligations.InputsMayArriveLater : Prop :=
  ∀ (s t : State) (es later : List Input), s.seq.op ≠ none → step { s with inputs := es } = .next t →
    (t.seq.op ≠ none → step { s with inputs := es ++ later } = step { t with inputs := later }) ∧
    (t.seq.op = none → step { s with inputs := es ++ later } = .next { t with inputs := t.inputs ++ later })

/-- R64: without an answer RSEQ stays in its transaction: the request is held and nothing else of RSEQ changes, however
many strobes and presented words come. -/
def Obligations.UnansweredTransactionIsHeld : Prop :=
  ∀ (s t : State) (q : TxReq), s.seq.op ≠ none → s.tx = some q → s.rsp = none →
    (∀ e ∈ s.inputs, e.isTx = false ∧ e.isRst = false) → step s = .next t →
    t.regs = s.regs ∧ t.seq = s.seq ∧ t.tx = some q ∧ t.rsp = none ∧ t.trace = s.trace

/-- R280: a Wait that has not counted out changes no state but `seq.timer`, which counts the strobes, and issues no
transaction. -/
def Obligations.WaitOnlyCountsStrobes : Prop :=
  ∀ (s t : State) (op : Opcode) (n : Nat), s.seq.op = some op → s.tx = none → s.rsp = none →
    (bodyOf op s.seq.argA s.seq.argB)[s.seq.pos]? = some (.wait n) →
    (∀ e ∈ s.inputs, e.isTx = false ∧ e.isRst = false) → s.seq.timer + strobes s.inputs < n → step s = .next t →
    t.regs = s.regs ∧ t.seq = { s.seq with timer := s.seq.timer + strobes s.inputs } ∧ t.tx = none ∧ t.rsp = none ∧
      t.trace = s.trace

/-- R282, R64, R73: under the fairness assumption of R282 a running command ends. From every state in which a command is in
one of its transactions or Waits, a run in which every transaction eventually gets an answer and the strobes of every Wait
eventually reach its bound comes to a state in which RSEQ is IDLE. -/
def Obligations.FairRunsEndTheCommand : Prop :=
  ∀ (env : Nat → List Input) (s : State), SequencerLegal s → s.seq.op ≠ none → Fair env s →
    ∃ n : Nat, (runOn env s n).seq.op = none

/-- R282, R64: if the transport never answers, RSEQ stays busy for ever. A run in which no answer and no reset ever comes
holds the request that is on the port in every later state. -/
def Obligations.UnansweredRunsStayBusy : Prop :=
  ∀ (env : Nat → List Input) (s : State) (q : TxReq), s.seq.op ≠ none → s.tx = some q →
    (∀ e ∈ s.inputs, e.isTx = false ∧ e.isRst = false) → (∀ n, ∀ e ∈ env n, e.isTx = false ∧ e.isRst = false) →
    ∀ n : Nat, (runOn env s n).seq = s.seq ∧ (runOn env s n).tx = some q ∧ (runOn env s n).regs = s.regs

/-- R260, R262: `rst` gives every piece of RSEQ's state its reset value, in the middle of a command too, and no response
is emitted for the aborted command. That the model's own fields are left, the inputs still to come and the observation
record as it stood, is the model's choice (notes/assumptions/6.md, notes/assumptions/13.md), and so is the reset value of
the micro-step position (notes/assumptions/7.md). -/
def Obligations.ResetAbortsTheCommand : Prop :=
  ∀ (s : State) (rest : List Input), (s.seq.op ≠ none ∨ s.rsp ≠ none ∨ s.cmds = []) → s.inputs = .rst :: rest →
    ∃ t : State, step s = .next t ∧ t.regs = State.reset.regs ∧ t.seq = State.reset.seq ∧ t.tx = none ∧ t.rsp = none ∧
      t.inputs = rest ∧ t.trace = s.trace

/-- R50: the reset values of every piece of state the rule lists. -/
def Obligations.ResetValues : Prop :=
  (∀ a : Slot, State.reset.regs.x[a] = 0x0000) ∧
  State.reset.regs.d.frequency = 0 ∧ State.reset.regs.d.volume = 0 ∧
  State.reset.regs.d.bassBoost = false ∧ State.reset.regs.d.mute = false ∧ State.reset.regs.d.softMute = false ∧
  State.reset.regs.d.mono = false ∧ State.reset.regs.d.rds = false ∧ State.reset.regs.d.tuned = false ∧
  State.reset.regs.d.band = .fmworld ∧ State.reset.regs.d.rssi = 0 ∧ State.reset.regs.life = .uninit ∧
  State.reset.seq.op = none ∧ State.reset.seq.step = 0 ∧ State.reset.seq.argA = 0 ∧ State.reset.seq.argB = 0 ∧
  State.reset.seq.timer = 0 ∧ State.reset.rsp = none ∧ State.reset.rspValid = false ∧
  State.reset.tx = none ∧ State.reset.txValid = false

/-- R45: a pending response stays, and no presented word is accepted, until the host takes it; taking it empties the port
and changes nothing else of RSEQ. That a presented word joins the end of a queue when others already wait is the model's
choice and no rule's (notes/assumptions/20.md); R46 says of the presented command only that it waits. -/
def Obligations.ResponseStaysUntilTaken : Prop :=
  ∀ (s : State) (r : Response), s.seq.op = none → s.rsp = some r →
    (∀ rest, s.inputs = .take :: rest → step s = .next { s with rsp := none, inputs := rest }) ∧
    (∀ w rest, s.inputs = .cmd w :: rest → step s = .next { s with cmds := s.cmds ++ [w], inputs := rest }) ∧
    (∀ n rest, s.inputs = Input.ticks n :: rest → step s = .next { s with inputs := rest }) ∧
    (s.inputs = [] → step s = .next s)

/-! ### Errors (R230 to R238) -/

/-- R237: the lifecycle errors and what an error does to `life`. A command other than INIT is refused while UNINIT or
TERMINATED before any micro-step; INIT is never refused; a transaction that fails leaves UNINIT in INIT and READY in every
other command, TERM included. -/
def Obligations.LifecycleErrors : Prop :=
  (∀ (i : Instr) (s : State), i.opcode ≠ .init → s.seq.op = none → s.tx = none → s.regs.life = .uninit →
    exec i s = .next { s with
      rsp := some ⟨0x20, 0, [], 0, 0, 0⟩, trace := s.trace ++ [.rsp ⟨0x20, 0, [], 0, 0, 0⟩] }) ∧
  (∀ (i : Instr) (s : State), i.opcode ≠ .init → s.seq.op = none → s.tx = none → s.regs.life = .terminated →
    exec i s = .next { s with
      rsp := some ⟨0x21, 0, [], 0, 0, 0⟩, trace := s.trace ++ [.rsp ⟨0x21, 0, [], 0, 0, 0⟩] }) ∧
  (∀ (f0 v0 : Int) (s t : State) (r : Response), s.rsp = none → exec (.init f0 v0) s = .next t → t.rsp = some r →
    r.status ≠ 0x20 ∧ r.status ≠ 0x21) ∧
  (∀ (i : Instr) (s t : State) (r : Response), s.rsp = none → exec i s = .next t → t.rsp = some r →
    (r.status = 0x01 ∨ r.status = 0x02 ∨ r.status = 0x03) →
    t.regs.life = if i.opcode = .init then .uninit else .ready)

/-- R235, R232, R236: a transaction that fails with a kind (tx_err 1 to 3; for 0 see notes/assumptions/5.md) ends the
running command: no later micro-step runs, every effect so far stays and the failing transaction has none, `life` follows
R237, and the one response names the error, the ordinal of the transaction and its address (A_RA for a burst). -/
def Obligations.FailedTransactionAbortsTheCommand : Prop :=
  ∀ (s : State) (op : Opcode) (q : TxReq) (err : BitVec 2) (rdata : BitVec 32) (rest : List Input),
    s.seq.op = some op → s.tx = some q → s.inputs = Input.tx false err rdata :: rest → err ≠ 0 →
    let r : Response := ⟨err.setWidth 8, 0, [], s.seq.step, if q.kind = .readSeq then 0x0A else q.addr, err.setWidth 8⟩
    step s = .next { s with
      regs := { s.regs with life := if op = .init then .uninit else s.regs.life },
      seq := { s.seq with op := none }, tx := none, rsp := some r, inputs := rest,
      trace := s.trace ++ [.answer false err rdata, .rsp r] }

/-- R45: one response per accepted command. With no reset among the inputs, a command from IDLE either ends with one new
response, which is the pending one, or is still running with none. -/
def Obligations.OneResponsePerCommand : Prop :=
  ∀ (i : Instr) (s t : State), s.seq.op = none → s.rsp = none → (∀ e ∈ s.inputs, e.isRst = false) →
    exec i s = .next t →
    (t.seq.op = none ∧ ∃ r, t.rsp = some r ∧ responses t.trace = responses s.trace ++ [r]) ∨
    (t.seq.op = some i.opcode ∧ t.rsp = none ∧ responses t.trace = responses s.trace)

/-! ### Toggles and volume (R160 to R165) -/

/-- R160 to R163, R165: each toggle writes its flag and its bit, whatever they were, transmits that one register,
  and ends
OK when the transport answers; SETMONO clears SEEK first; SETMUTE has the opposite sense. -/
def Obligations.TogglesWriteOneBit : Prop :=
  ∀ (b : Bool) (s : State) (e : BitVec 2) (d : BitVec 32) (rest : List Input),
    s.regs.life = .ready → s.inputs = Input.tx true e d :: rest →
    (let v := if b then s.regs.x[Config.CTRL] ||| 0x1000 else s.regs.x[Config.CTRL] &&& ~~~0x1000
     Completes (.setbass b) s
      { s.regs with x := s.regs.x.set 0x2 v, d := { s.regs.d with bassBoost := b } } ⟨0, []⟩ 1
      [.tx ⟨.write, 0x02, v⟩, .answer true e d] rest) ∧
    (let v := if b then (s.regs.x[Config.CTRL] &&& ~~~0x0100) ||| 0x2000
        else (s.regs.x[Config.CTRL] &&& ~~~0x0100) &&& ~~~0x2000
     Completes (.setmono b) s
      { s.regs with x := s.regs.x.set 0x2 v, d := { s.regs.d with mono := b } } ⟨0, []⟩ 1
      [.tx ⟨.write, 0x02, v⟩, .answer true e d] rest) ∧
    (let v := if b then s.regs.x[Config.CTRL] &&& ~~~0x4000 else s.regs.x[Config.CTRL] ||| 0x4000
     Completes (.setmute b) s
      { s.regs with x := s.regs.x.set 0x2 v, d := { s.regs.d with mute := b } } ⟨0, []⟩ 1
      [.tx ⟨.write, 0x02, v⟩, .answer true e d] rest) ∧
    (let v := if b then s.regs.x[Config.R4] ||| 0x0200 else s.regs.x[Config.R4] &&& ~~~0x0200
     Completes (.setsoftmute b) s
      { s.regs with x := s.regs.x.set 0x4 v, d := { s.regs.d with softMute := b } } ⟨0, []⟩ 1
      [.tx ⟨.write, 0x04, v⟩, .answer true e d] rest)

/-- R160, R236: a SETBASS whose write fails keeps the new flag and the new shadow value, and reports transaction 1 at
address 0x02. -/
def Obligations.FailedSetbassIsNotRolledBack : Prop :=
  ∀ (b : Bool) (s : State) (e : BitVec 2) (d : BitVec 32) (rest : List Input),
    s.regs.life = .ready → s.inputs = Input.tx false e d :: rest → e ≠ 0 →
    let v := if b then s.regs.x[Config.CTRL] ||| 0x1000 else s.regs.x[Config.CTRL] &&& ~~~0x1000
    FailsWith (.setbass b) s { s.regs with x := s.regs.x.set 0x2 v, d := { s.regs.d with bassBoost := b } }
      ⟨e.setWidth 8, 0, [], 1, 0x02, e.setWidth 8⟩ [.tx ⟨.write, 0x02, v⟩, .answer false e d] rest

/-- R164: SETVOLUME clamps to 0 to 15, stores the volume, replaces bits 3:0 of VOL and no other bit,
  and transmits VOL. -/
def Obligations.SetvolumeClampsAndWrites : Prop :=
  ∀ (vol : Int) (s : State) (e : BitVec 2) (d : BitVec 32) (rest : List Input),
    s.regs.life = .ready → s.inputs = Input.tx true e d :: rest →
    let v : Int := if vol < 0 then 0 else if 15 < vol then 15 else vol
    let w : Word := s.regs.x[Config.VOL] &&& 0xFFF0 ||| BitVec.ofInt 16 v
    Completes (.setvolume vol) s
      { s.regs with x := s.regs.x.set 0x5 w, d := { s.regs.d with volume := BitVec.ofInt 4 v } } ⟨0, []⟩ 1
      [.tx ⟨.write, 0x05, w⟩, .answer true e d] rest

/-! ### Frequency (R140 to R148) -/

/-- R142: the channel number is the truncated quotient of the clamped frequency, from 0 to 210. -/
def Obligations.ChannelNumberTruncates : Prop :=
  ∀ freq : Int,
    let f : Int := if freq < 8700 then 8700 else if 10800 < freq then 10800 else freq
    clampFreq freq = f ∧ channelOf f ≤ 210 ∧ 8700 + 10 * (channelOf f : Int) ≤ f ∧
      f < 8700 + 10 * (channelOf f : Int) + 10

/-- R143: the CHAN value has the channel in bits 15:6, TUNE set, bits 5 and 3:0 zero, and bits 15 and 14 always zero. -/
def Obligations.ChanValueFields : Prop :=
  ∀ freq : Int,
    (tuneValue freq).toNat / 64 = channelOf (clampFreq freq) ∧ (tuneValue freq).toNat % 64 = 0x10 ∧
      (tuneValue freq).toNat < 2 ^ 14

/-- R144: the readback sets `d.frequency` to 8700 + (x[RA] & 0x3FF) * 10, without clamp and without overflow, and changes
nothing else. -/
def Obligations.ReadbackIsNotClamped : Prop :=
  ∀ r : Regs, r.readbackFrequency.d.frequency.toNat = 8700 + (r.x[Config.RA].toNat % 1024) * 10 ∧
    r.readbackFrequency = { r with d := { r.d with frequency := r.readbackFrequency.d.frequency } }

/-- R148: if the chip reports the requested channel, a frequency in range that is a multiple of 10 reads back as itself,
and any other frequency in range as the largest multiple of 10 from 8700 on that is not greater. -/
def Obligations.FrequencyRoundTrip : Prop :=
  ∀ (f : Int) (ra : Word), 8700 ≤ f → f ≤ 10800 → (ra &&& 0x03FF).toNat = channelOf (clampFreq f) →
    (f % 10 = 0 → ((freqOf ra).toNat : Int) = f) ∧ ((freqOf ra).toNat : Int) = 8700 + 10 * ((f - 8700) / 10)

/-- R147: for n from 100 on, `render` inserts a point two digits from the end of the decimal string and appends " Mhz";
below 100 it pads with zeros; no 16-bit number gives more than ten bytes. -/
def Obligations.RenderInsertsThePoint : Prop :=
  ∀ n : Nat, n < 65536 →
    let digits : List Byte := (Nat.toDigits 10 n).map fun c => BitVec.ofNat 8 c.toNat
    (100 ≤ n → render n = digits.take (digits.length - 2) ++ [0x2E] ++ digits.drop (digits.length - 2) ++
      [0x20, 0x4D, 0x68, 0x7A]) ∧
    (n < 100 → render n = [0x30, 0x2E, BitVec.ofNat 8 (0x30 + n / 10), BitVec.ofNat 8 (0x30 + n % 10),
      0x20, 0x4D, 0x68, 0x7A]) ∧
    (render n).length ≤ 10

/-- R140: SETFREQ on a transport that answers, however the strobes of its two Waits come: CTRL with OUTPUT, UNMUTE, RDS
and ENABLE set, CHAN with the clamped channel and TUNE, at least 200 ms, VOL as it stands, at least 300 ms,
  then the burst
into RA and RB and the unclamped readback into `d.frequency`. Nothing else changes. -/
def Obligations.SetfreqTunesAndReadsBack : Prop :=
  ∀ (freq : Int) (s : State) (e1 e2 e3 e4 : BitVec 2) (d1 d2 d3 d4 : BitVec 32) (ks1 ks2 : List Nat) (k1 k2 : Nat)
    (rest : List Input),
    s.regs.life = .ready → ks1.sum < 200 → 200 ≤ ks1.sum + k1 → ks2.sum < 300 → 300 ≤ ks2.sum + k2 →
    s.inputs = [Input.tx true e1 d1, Input.tx true e2 d2] ++ ks1.map Input.ticks ++
      [Input.ticks k1, Input.tx true e3 d3] ++ ks2.map Input.ticks ++
      [Input.ticks k2, Input.tx true e4 d4] ++ rest →
    let f : Int := if freq < 8700 then 8700 else if 10800 < freq then 10800 else freq
    let ctrl : Word := s.regs.x[Config.CTRL] ||| 0xC009
    let chan : Word := (0x0010 : Word) ||| (BitVec.ofInt 16 ((f - 8700) / 10) <<< 6)
    let ra : Word := d4.extractLsb' 16 16
    let rb : Word := d4.extractLsb' 0 16
    Completes (.setfreq freq) s
      { s.regs with
        x := (((s.regs.x.set 0x2 ctrl).set 0x3 chan).set 0xA ra).set 0xB rb,
        d := { s.regs.d with frequency := BitVec.ofNat 16 (8700 + (ra &&& 0x03FF).toNat * 10) } }
      ⟨0, []⟩ 4
      [.tx ⟨.write, 0x02, ctrl⟩, .answer true e1 d1, .tx ⟨.write, 0x03, chan⟩, .answer true e2 d2, .wait 200,
       .tx ⟨.write, 0x05, s.regs.x[Config.VOL]⟩, .answer true e3 d3, .wait 300,
       .tx ⟨.readSeq, 0x00, 0x0000⟩, .answer true e4 d4] rest

/-- R140 (exceptions): what stands after SETFREQ fails at transaction 1, 2, 3 or 4. -/
def Obligations.FailedSetfreqKeepsCompletedSteps : Prop :=
  ∀ (freq : Int) (s : State) (e1 e2 e3 e4 : BitVec 2) (d1 d2 d3 d4 : BitVec 32) (rest : List Input),
    s.regs.life = .ready →
    let f : Int := if freq < 8700 then 8700 else if 10800 < freq then 10800 else freq
    let ctrl : Word := s.regs.x[Config.CTRL] ||| 0xC009
    let chan : Word := (0x0010 : Word) ||| (BitVec.ofInt 16 ((f - 8700) / 10) <<< 6)
    let q1 : Obs := .tx ⟨.write, 0x02, ctrl⟩
    let q2 : Obs := .tx ⟨.write, 0x03, chan⟩
    let q3 : Obs := .tx ⟨.write, 0x05, s.regs.x[Config.VOL]⟩
    (s.inputs = Input.tx false e1 d1 :: rest → e1 ≠ 0 →
      FailsWith (.setfreq freq) s { s.regs with x := s.regs.x.set 0x2 ctrl }
        ⟨e1.setWidth 8, 0, [], 1, 0x02, e1.setWidth 8⟩ [q1, .answer false e1 d1] rest) ∧
    (s.inputs = [Input.tx true e1 d1, Input.tx false e2 d2] ++ rest → e2 ≠ 0 →
      FailsWith (.setfreq freq) s { s.regs with x := (s.regs.x.set 0x2 ctrl).set 0x3 chan }
        ⟨e2.setWidth 8, 0, [], 2, 0x03, e2.setWidth 8⟩ [q1, .answer true e1 d1, q2, .answer false e2 d2] rest) ∧
    (∀ k1, 200 ≤ k1 → s.inputs = [Input.tx true e1 d1, Input.tx true e2 d2, Input.ticks k1, Input.tx false e3 d3] ++
      rest → e3 ≠ 0 →
      FailsWith (.setfreq freq) s { s.regs with x := (s.regs.x.set 0x2 ctrl).set 0x3 chan }
        ⟨e3.setWidth 8, 0, [], 3, 0x05, e3.setWidth 8⟩
        [q1, .answer true e1 d1, q2, .answer true e2 d2, .wait 200, q3, .answer false e3 d3] rest) ∧
    (∀ k1 k2, 200 ≤ k1 → 300 ≤ k2 →
      s.inputs = [Input.tx true e1 d1, Input.tx true e2 d2, Input.ticks k1, Input.tx true e3 d3, Input.ticks k2,
        Input.tx false e4 d4] ++ rest →
      e4 ≠ 0 →
      FailsWith (.setfreq freq) s { s.regs with x := (s.regs.x.set 0x2 ctrl).set 0x3 chan }
        ⟨e4.setWidth 8, 0, [], 4, 0x0A, e4.setWidth 8⟩
        [q1, .answer true e1 d1, q2, .answer true e2 d2, .wait 200, q3, .answer true e3 d3, .wait 300,
         .tx ⟨.readSeq, 0x00, 0x0000⟩, .answer false e4 d4] rest)

/-- R145: GETFREQ reads the burst into RA and RB,
  refreshes `d.frequency` and returns it; a failed burst changes neither. -/
def Obligations.GetfreqRefreshesAndReturns : Prop :=
  ∀ (s : State) (e : BitVec 2) (d : BitVec 32) (rest : List Input), s.regs.life = .ready →
    let ra : Word := d.extractLsb' 16 16
    let rb : Word := d.extractLsb' 0 16
    let freq : Nat := 8700 + (ra &&& 0x03FF).toNat * 10
    (s.inputs = Input.tx true e d :: rest →
      Completes .getfreq s
        { s.regs with
          x := (s.regs.x.set 0xA ra).set 0xB rb, d := { s.regs.d with frequency := BitVec.ofNat 16 freq } }
        ⟨BitVec.ofNat 32 freq, []⟩ 1 [.tx ⟨.readSeq, 0x00, 0x0000⟩, .answer true e d] rest) ∧
    (s.inputs = Input.tx false e d :: rest → e ≠ 0 →
      FailsWith .getfreq s s.regs ⟨e.setWidth 8, 0, [], 1, 0x0A, e.setWidth 8⟩
        [.tx ⟨.readSeq, 0x00, 0x0000⟩, .answer false e d] rest)

/-- R146: FORMATFREQ answers the rendered `d.frequency`, issues no transaction,
  takes no input and changes no register. -/
def Obligations.FormatfreqRendersTheCachedFrequency : Prop :=
  ∀ s : State, s.regs.life = .ready →
    Completes .formatfreq s s.regs ⟨0, render s.regs.d.frequency.toNat⟩ 0 [] s.inputs

/-! ### Band and seek (R180 to R183, R273) -/

/-- R180: SETBAND stores the band, replaces the whole of CHAN by the band code, transmits it, and changes nothing else,
`d.frequency` included. -/
def Obligations.SetbandReplacesChan : Prop :=
  ∀ (band : Band) (s : State) (e : BitVec 2) (d : BitVec 32) (rest : List Input),
    s.regs.life = .ready → s.inputs = Input.tx true e d :: rest →
    let v : Word := if band = .fmworld then 0x0008 else 0x0000
    Completes (.setband band) s
      { s.regs with x := s.regs.x.set 0x3 v, d := { s.regs.d with band := band } } ⟨0, []⟩ 1
      [.tx ⟨.write, 0x03, v⟩, .answer true e d] rest

/-- R181, R182: a seek sets the direction bit (up) or clears it (down), sets SEEK, transmits CTRL, lets at least 1000 ms
pass, reads back the frequency, clears SEEK and transmits CTRL again; CHAN and everything else stay. -/
def Obligations.SeekRunsItsWindow : Prop :=
  ∀ (up : Bool) (s : State) (e1 e2 e3 : BitVec 2) (d1 d2 d3 : BitVec 32) (ks : List Nat) (k : Nat) (rest : List Input),
    s.regs.life = .ready → ks.sum < 1000 → 1000 ≤ ks.sum + k →
    s.inputs = [Input.tx true e1 d1] ++ ks.map Input.ticks ++
      [Input.ticks k, Input.tx true e2 d2, Input.tx true e3 d3] ++ rest →
    let armed : Word :=
      (if up then s.regs.x[Config.CTRL] ||| 0x0200 else s.regs.x[Config.CTRL] &&& ~~~0x0200) ||| 0x0100
    let ended : Word := armed &&& ~~~0x0100
    let ra : Word := d2.extractLsb' 16 16
    let rb : Word := d2.extractLsb' 0 16
    Completes (if up then .seekup else .seekdown) s
      { s.regs with
        x := ((s.regs.x.set 0x2 ended).set 0xA ra).set 0xB rb,
        d := { s.regs.d with frequency := BitVec.ofNat 16 (8700 + (ra &&& 0x03FF).toNat * 10) } }
      ⟨0, []⟩ 3
      [.tx ⟨.write, 0x02, armed⟩, .answer true e1 d1, .wait 1000, .tx ⟨.readSeq, 0x00, 0x0000⟩, .answer true e2 d2,
       .tx ⟨.write, 0x02, ended⟩, .answer true e3 d3] rest

/-- R273: a seek that fails on its burst leaves SEEK set in the shadow and `d.frequency` as it was; one that fails on its
final write leaves SEEK clear in the shadow with the new frequency. -/
def Obligations.FailedSeekAndTheSeekBit : Prop :=
  ∀ (up : Bool) (s : State) (e1 e2 e3 : BitVec 2) (d1 d2 d3 : BitVec 32) (k : Nat) (rest : List Input),
    s.regs.life = .ready → 1000 ≤ k →
    let armed : Word :=
      (if up then s.regs.x[Config.CTRL] ||| 0x0200 else s.regs.x[Config.CTRL] &&& ~~~0x0200) ||| 0x0100
    let ended : Word := armed &&& ~~~0x0100
    let ra : Word := d2.extractLsb' 16 16
    let rb : Word := d2.extractLsb' 0 16
    (s.inputs = [Input.tx true e1 d1, Input.ticks k, Input.tx false e2 d2] ++ rest → e2 ≠ 0 →
      FailsWith (if up then .seekup else .seekdown) s { s.regs with x := s.regs.x.set 0x2 armed }
        ⟨e2.setWidth 8, 0, [], 2, 0x0A, e2.setWidth 8⟩
        [.tx ⟨.write, 0x02, armed⟩, .answer true e1 d1, .wait 1000, .tx ⟨.readSeq, 0x00, 0x0000⟩,
         .answer false e2 d2] rest) ∧
    (s.inputs = [Input.tx true e1 d1, Input.ticks k, Input.tx true e2 d2, Input.tx false e3 d3] ++ rest → e3 ≠ 0 →
      FailsWith (if up then .seekup else .seekdown) s
        { s.regs with
          x := ((s.regs.x.set 0x2 ended).set 0xA ra).set 0xB rb,
          d := { s.regs.d with frequency := BitVec.ofNat 16 (8700 + (ra &&& 0x03FF).toNat * 10) } }
        ⟨e3.setWidth 8, 0, [], 3, 0x02, e3.setWidth 8⟩
        [.tx ⟨.write, 0x02, armed⟩, .answer true e1 d1, .wait 1000, .tx ⟨.readSeq, 0x00, 0x0000⟩, .answer true e2 d2,
         .tx ⟨.write, 0x02, ended⟩, .answer false e3 d3] rest)

/-! ### Reset, status, termination (R200 to R204) -/

/-- R200: SOFTRESET sets RESET, transmits CTRL, lets at least 2000 ms pass, clears RESET, transmits CTRL again,
  and changes
nothing else; if its second write fails the shadow already has RESET clear. -/
def Obligations.SoftresetHoldsResetThenClearsIt : Prop :=
  ∀ (s : State) (ok : Bool) (e1 e2 : BitVec 2) (d1 d2 : BitVec 32) (ks : List Nat) (k : Nat) (rest : List Input),
    s.regs.life = .ready → ks.sum < 2000 → 2000 ≤ ks.sum + k →
    s.inputs = [Input.tx true e1 d1] ++ ks.map Input.ticks ++ [Input.ticks k, .tx ok e2 d2] ++ rest →
    let held : Word := s.regs.x[Config.CTRL] ||| 0x0002
    let ended : Word := held &&& ~~~0x0002
    let seen : List Obs :=
      [.tx ⟨.write, 0x02, held⟩, .answer true e1 d1, .wait 2000, .tx ⟨.write, 0x02, ended⟩, .answer ok e2 d2]
    (ok = true → Completes .softreset s { s.regs with x := s.regs.x.set 0x2 ended } ⟨0, []⟩ 2 seen rest) ∧
    (ok = false → e2 ≠ 0 →
      FailsWith .softreset s { s.regs with x := s.regs.x.set 0x2 ended }
        ⟨e2.setWidth 8, 0, [], 2, 0x02, e2.setWidth 8⟩ seen rest)

/-- R41: the RSSI is the upper six bits of RB, from 0 to 63 for every RB. -/
def Obligations.RssiIsTheUpperSixBits : Prop :=
  ∀ rb : Word, (rssiOf rb).toNat = rb.toNat / 1024 ∧ (rssiOf rb).toNat ≤ 63

/-- R201: GETRSSI reads RB by the indexed read into the shadow,
  caches and returns RB >> 10; a failed read changes neither. -/
def Obligations.GetrssiCachesAndReturns : Prop :=
  ∀ (s : State) (e : BitVec 2) (d : BitVec 32) (rest : List Input), s.regs.life = .ready →
    let w : Word := d.extractLsb' 0 16
    (s.inputs = Input.tx true e d :: rest →
      Completes .getrssi s
        { s.regs with x := s.regs.x.set 0xB w, d := { s.regs.d with rssi := BitVec.ofNat 6 (w.toNat / 1024) } }
        ⟨BitVec.ofNat 32 (w.toNat / 1024), []⟩ 1 [.tx ⟨.readIdx, 0x0B, 0x0000⟩, .answer true e d] rest) ∧
    (s.inputs = Input.tx false e d :: rest → e ≠ 0 →
      FailsWith .getrssi s s.regs ⟨e.setWidth 8, 0, [], 1, 0x0B, e.setWidth 8⟩
        [.tx ⟨.readIdx, 0x0B, 0x0000⟩, .answer false e d] rest)

/-- R102, R202: GETRADIOINFO reads the burst into RA and RB and refreshes `rds`, `rssi`, `tuned` and,
  from the shadow CTRL,
`mono`; `d.frequency` stays; the result packs the four fields; a failed burst changes none. -/
def Obligations.GetradioinfoRefreshesFourFields : Prop :=
  ∀ (s : State) (e : BitVec 2) (d : BitVec 32) (rest : List Input), s.regs.life = .ready →
    let ra : Word := d.extractLsb' 16 16
    let rb : Word := d.extractLsb' 0 16
    let rds := decide (ra.toNat / 2 ^ 15 % 2 = 1)
    let tuned := decide (rb.toNat / 2 ^ 8 % 2 = 1)
    let mono := decide ((s.regs.x[Config.CTRL]).toNat / 2 ^ 13 % 2 = 1)
    (s.inputs = Input.tx true e d :: rest →
      Completes .getradioinfo s
        { s.regs with
          x := (s.regs.x.set 0xA ra).set 0xB rb,
          d := { s.regs.d with
            rds := rds, rssi := BitVec.ofNat 6 (rb.toNat / 1024), tuned := tuned, mono := mono } }
        ⟨BitVec.ofNat 32
          (rb.toNat / 1024 + (if rds then 2 ^ 8 else 0) + (if tuned then 2 ^ 9 else 0) + (if mono then 2 ^ 10 else 0)),
          []⟩ 1 [.tx ⟨.readSeq, 0x00, 0x0000⟩, .answer true e d] rest) ∧
    (s.inputs = Input.tx false e d :: rest → e ≠ 0 →
      FailsWith .getradioinfo s s.regs ⟨e.setWidth 8, 0, [], 1, 0x0A, e.setWidth 8⟩
        [.tx ⟨.readSeq, 0x00, 0x0000⟩, .answer false e d] rest)

/-- R203: TERM sets volume 0, transmits VOL, zeroes the CTRL shadow,
  transmits registers 2 to 7 in ascending order and ends
TERMINATED; no flag but `d.volume` changes. -/
def Obligations.TermFlushesAndTerminates : Prop :=
  ∀ (s : State) (e1 e2 e3 e4 e5 e6 e7 : BitVec 2) (d1 d2 d3 d4 d5 d6 d7 : BitVec 32) (rest : List Input),
    s.regs.life = .ready →
    s.inputs = [Input.tx true e1 d1, Input.tx true e2 d2, Input.tx true e3 d3, Input.tx true e4 d4,
      Input.tx true e5 d5, Input.tx true e6 d6,
      Input.tx true e7 d7] ++ rest →
    let vol : Word := s.regs.x[Config.VOL] &&& 0xFFF0
    Completes .term s
      { x := (s.regs.x.set 0x5 vol).set 0x2 0x0000, d := { s.regs.d with volume := 0 }, life := .terminated } ⟨0, []⟩ 7
      [.tx ⟨.write, 0x05, vol⟩, .answer true e1 d1, .tx ⟨.write, 0x02, 0x0000⟩, .answer true e2 d2,
       .tx ⟨.write, 0x03, s.regs.x[Config.CHAN]⟩, .answer true e3 d3,
       .tx ⟨.write, 0x04, s.regs.x[Config.R4]⟩, .answer true e4 d4, .tx ⟨.write, 0x05, vol⟩, .answer true e5 d5,
       .tx ⟨.write, 0x06, s.regs.x[(0x6 : Slot)]⟩, .answer true e6 d6,
       .tx ⟨.write, 0x07, s.regs.x[(0x7 : Slot)]⟩, .answer true e7 d7] rest

/-- R204: TERM with TERM_FLUSH = false issues the VOL write only, with CTRL zeroed in the shadow alone, and ends
TERMINATED. -/
def Obligations.TermWithoutFlushWritesOnlyVol : Prop :=
  ∀ (s : State) (e : BitVec 2) (d : BitVec 32) (rest : List Input),
    s.regs.life = .ready → s.inputs = Input.tx true e d :: rest →
    let vol : Word := s.regs.x[Config.VOL] &&& 0xFFF0
    ∃ t : State, command .term 0 0 (termBody false) s = .next t ∧
      t.regs = { x := (s.regs.x.set 0x5 vol).set 0x2 0x0000, d := { s.regs.d with volume := 0 }, life := .terminated } ∧
      t.rsp = some ⟨0x00, 0, [], 0, 0, 0⟩ ∧ t.seq.op = none ∧ t.tx = none ∧ t.inputs = rest ∧
      t.trace = s.trace ++ [.tx ⟨.write, 0x05, vol⟩, .answer true e d, .rsp ⟨0x00, 0, [], 0, 0, 0⟩]

/-! ### Initialisation (R51, R120 to R124) -/

/-- R51, R120 to R123: INIT, in every lifecycle state and whatever the register files held, on a transport that answers:
the nine transactions and two Waits in order with their values, and the register files it leaves. -/
def Obligations.InitBringsUpTheChip : Prop :=
  ∀ (f0 v0 : Int) (s : State) (e1 e2 e3 e4 e5 e6 e7 e8 e9 : BitVec 2) (d1 d2 d3 d4 d5 d6 d7 d8 d9 : BitVec 32)
    (ks1 ks2 : List Nat) (k1 k2 : Nat) (rest : List Input),
    ks1.sum < 200 → 200 ≤ ks1.sum + k1 → ks2.sum < 300 → 300 ≤ ks2.sum + k2 →
    s.inputs = [Input.tx true e1 d1, Input.tx true e2 d2, Input.tx true e3 d3, Input.tx true e4 d4,
      Input.tx true e5 d5, Input.tx true e6 d6] ++
      ks1.map Input.ticks ++ [Input.ticks k1, Input.tx true e7 d7] ++ ks2.map Input.ticks ++
      [Input.ticks k2, Input.tx true e8 d8, Input.tx true e9 d9] ++ rest →
    let f : Int := if f0 < 8700 then 8700 else if 10800 < f0 then 10800 else f0
    let v : Int := if v0 < 0 then 0 else if 15 < v0 then 15 else v0
    let chan : Word := (0x0010 : Word) ||| (BitVec.ofInt 16 ((f - 8700) / 10) <<< 6)
    let vol : Word := (0x84D0 : Word) ||| BitVec.ofInt 16 v
    let ra : Word := d8.extractLsb' 16 16
    let rb : Word := d8.extractLsb' 0 16
    Completes (.init f0 v0) s
      { x := #v[0x0058, 0x0000, 0xD00D, chan, 0x0000, vol, 0x0000, 0x0000, 0x0000, 0x0000, ra, rb, 0x0000, 0x0000,
          0x0000, 0x0000],
        d := { frequency := BitVec.ofNat 16 (8700 + (ra &&& 0x03FF).toNat * 10), volume := BitVec.ofInt 4 v,
               bassBoost := true, mute := false, softMute := false, mono := false, rds := true, tuned := true,
               band := .fmworld, rssi := 0 },
        life := .ready }
      ⟨0, []⟩ 9
      [.tx ⟨.write, 0x02, 0xC003⟩, .answer true e1 d1, .tx ⟨.write, 0x05, 0x84D1⟩, .answer true e2 d2,
       .tx ⟨.write, 0x02, 0xC00D⟩, .answer true e3 d3, .tx ⟨.write, 0x02, 0xD00D⟩, .answer true e4 d4,
       .tx ⟨.write, 0x02, 0xD00D⟩, .answer true e5 d5, .tx ⟨.write, 0x03, chan⟩, .answer true e6 d6, .wait 200,
       .tx ⟨.write, 0x05, 0x84D1⟩, .answer true e7 d7, .wait 300, .tx ⟨.readSeq, 0x00, 0x0000⟩, .answer true e8 d8,
       .tx ⟨.write, 0x05, vol⟩, .answer true e9 d9] rest

/-- R22, R124: INIT issues 9 transactions, 4 of them in SETUP,
  4 in SETFREQ and 1 in SETVOLUME; TERM issues 7; no command
issues more than 9, so the 8-bit count never wraps. -/
def Obligations.TransactionCounts : Prop :=
  (∀ f0 v0 : Int, transactionCount (initBody f0 v0) = 9) ∧ transactionCount setupCore = 4 ∧
  (∀ f : Int, transactionCount (setfreqCore f) = 4) ∧ (∀ v : Int, transactionCount (setvolumeCore v) = 1) ∧
  transactionCount (termBody true) = 7 ∧
  ∀ (op : Opcode) (a b : Int), transactionCount (bodyOf op a b) ≤ 9

/-- R279, R283: a command that completes has seen at least as many strobes as its Waits add up to: 500 for SETFREQ and
INIT, 1000 for a seek, 2000 for SOFTRESET. -/
def Obligations.CompletionTakesTheWaits : Prop :=
  ∀ (i : Instr) (s t : State) (r : Response), s.seq.op = none → s.rsp = none → exec i s = .next t → t.rsp = some r →
    r.status = 0x00 →
    ∃ used : List Input, s.inputs = used ++ t.inputs ∧
      (match i with
        | .init _ _ => 500
        | .setfreq _ => 500
        | .seekup => 1000
        | .seekdown => 1000
        | .softreset => 2000
        | _ => 0) ≤ strobes used

/-! ### Frames over all commands (R21, R38 to R41) -/

/-- R38 to R42: which commands other than INIT may change which derived field, and that only TERM among them changes
`life`: with no reset among the inputs every other command leaves the field alone, whether it completes, fails, is refused
or is still running. -/
def Obligations.DerivedFieldsHaveTheirWriters : Prop :=
  ∀ (i : Instr) (s t : State), s.seq.op = none → (∀ e ∈ s.inputs, e.isRst = false) → exec i s = .next t →
    i.opcode ≠ .init →
    (i.opcode ∉ [.setfreq, .getfreq, .seekup, .seekdown] → t.regs.d.frequency = s.regs.d.frequency) ∧
    (i.opcode ∉ [.setvolume, .term] → t.regs.d.volume = s.regs.d.volume) ∧
    (i.opcode ≠ .setbass → t.regs.d.bassBoost = s.regs.d.bassBoost) ∧
    (i.opcode ≠ .setmute → t.regs.d.mute = s.regs.d.mute) ∧
    (i.opcode ≠ .setsoftmute → t.regs.d.softMute = s.regs.d.softMute) ∧
    (i.opcode ∉ [.setmono, .getradioinfo] → t.regs.d.mono = s.regs.d.mono) ∧
    (i.opcode ≠ .getradioinfo → t.regs.d.rds = s.regs.d.rds ∧ t.regs.d.tuned = s.regs.d.tuned) ∧
    (i.opcode ≠ .setband → t.regs.d.band = s.regs.d.band) ∧
    (i.opcode ∉ [.getrssi, .getradioinfo] → t.regs.d.rssi = s.regs.d.rssi) ∧
    (i.opcode ≠ .term → t.regs.life = s.regs.life)

/-- R21, R27, R29, R31 to R35: which commands other than INIT may change which shadow slot: with no reset among the
inputs every other command leaves the slot alone. -/
def Obligations.ShadowSlotsHaveTheirWriters : Prop :=
  ∀ (i : Instr) (s t : State), s.seq.op = none → (∀ e ∈ s.inputs, e.isRst = false) → exec i s = .next t →
    i.opcode ≠ .init →
    (i.opcode ∉ [.setfreq, .setbass, .setmono, .setmute, .seekup, .seekdown, .softreset, .term] →
      t.regs.x[Config.CTRL] = s.regs.x[Config.CTRL]) ∧
    (i.opcode ∉ [.setfreq, .setband] → t.regs.x[Config.CHAN] = s.regs.x[Config.CHAN]) ∧
    (i.opcode ≠ .setsoftmute → t.regs.x[Config.R4] = s.regs.x[Config.R4]) ∧
    (i.opcode ∉ [.setvolume, .term] → t.regs.x[Config.VOL] = s.regs.x[Config.VOL]) ∧
    (i.opcode ∉ [.setfreq, .getfreq, .seekup, .seekdown, .getradioinfo] →
      t.regs.x[Config.RA] = s.regs.x[Config.RA]) ∧
    (i.opcode ∉ [.setfreq, .getfreq, .seekup, .seekdown, .getradioinfo, .getrssi] →
      t.regs.x[Config.RB] = s.regs.x[Config.RB]) ∧
    ∀ a : Slot, a ∉ [0x2, 0x3, 0x4, 0x5, 0xA, 0xB] → t.regs.x[a] = s.regs.x[a]

/-- A step only adds to the model's observation record. The record `trace` is the model's own field and its keeping is the
model's choice, not a rule's: that no step takes an entry out is notes/assumptions/13.md, and that `rst` leaves it is
notes/assumptions/6.md too. R17 says only what an observation consists of. -/
def Obligations.ObservationRecordOnlyGrows : Prop :=
  ∀ s t : State, step s = .next t → ∃ more : List Obs, t.trace = s.trace ++ more

/-! ### Invariants that every step keeps -/

/-- R28, R29, R31, R35: every step keeps the reserved bits of CTRL and CHAN at 0, R4 at 0x0000 or 0x0200, and the unused
slots at their reset value. -/
def Obligations.EveryStepKeepsShadowLegal : Prop :=
  ∀ s t : State, ShadowLegal s.regs → step s = .next t → ShadowLegal t.regs

/-- R45, R60 to R64, R74: every step keeps the ports legal: at most one request,
  only while a command runs and no response
is pending, and a write carries the shadow's own value of a register 2 to 7. -/
def Obligations.EveryStepKeepsPortsLegal : Prop :=
  ∀ s t : State, PortsLegal s → step s = .next t → PortsLegal t

/-- R45, R101, R231: every step keeps the pending response legal: only the codes of the table are emitted,
  with the error
fields the table records. -/
def Obligations.EveryStepKeepsPendingLegal : Prop :=
  ∀ s t : State, PendingLegal s → step s = .next t → PendingLegal t

/-- R22, R64, R73, R280: every step keeps the sequencer legal: a running command is always in one of its transactions, whose
request stands on the port, or in one of its Waits, and `seq.step` counts its transactions. -/
def Obligations.EveryStepKeepsSequencerLegal : Prop :=
  ∀ s t : State, SequencerLegal s → step s = .next t → SequencerLegal t

/-- R25, R31, R32, R37, R38: every step keeps what holds of a READY RSEQ (CHIPID is 0x0058, VOL is 0x84D0 with the volume
in bits 3:0, R4 agrees with the soft-mute flag, the frequency is 8700 + 10 k for a k up to 1023), together with the legal
sequencer and what a running INIT has established so far. -/
def Obligations.EveryStepKeepsReadyLegal : Prop :=
  ∀ s t : State, ReadyLegal s → step s = .next t → ReadyLegal t

/-- The invariants hold right after reset. -/
def Obligations.InvariantsHoldAtReset : Prop :=
  ShadowLegal State.reset.regs ∧ PortsLegal State.reset ∧ PendingLegal State.reset ∧ SequencerLegal State.reset ∧
    ReadyLegal State.reset
end

