-- ==== Sys2Proof/Laws/State.lean ====
section
/-! SUPPORT. Laws/State.lean: what each update of State and of the register files leaves in each field. -/

namespace Sys2Proof.Machine

open Sys2Proof

/-! ### Updates of State -/

@[simp] theorem State.observe_regs (s : State) (o : Obs) : (s.observe o).regs = s.regs := rfl
@[simp] theorem State.observe_seq (s : State) (o : Obs) : (s.observe o).seq = s.seq := rfl
@[simp] theorem State.observe_tx (s : State) (o : Obs) : (s.observe o).tx = s.tx := rfl
@[simp] theorem State.observe_rsp (s : State) (o : Obs) : (s.observe o).rsp = s.rsp := rfl
@[simp] theorem State.observe_cmds (s : State) (o : Obs) : (s.observe o).cmds = s.cmds := rfl
@[simp] theorem State.observe_inputs (s : State) (o : Obs) : (s.observe o).inputs = s.inputs := rfl
@[simp] theorem State.observe_trace (s : State) (o : Obs) : (s.observe o).trace = s.trace ++ [o] := rfl

@[simp] theorem State.issue_regs (s : State) (q : TxReq) : (s.issue q).regs = s.regs := rfl
@[simp] theorem State.issue_seq_step (s : State) (q : TxReq) : (s.issue q).seq.step = s.seq.step + 1 := rfl
@[simp] theorem State.issue_seq_op (s : State) (q : TxReq) : (s.issue q).seq.op = s.seq.op := rfl
@[simp] theorem State.issue_seq_argA (s : State) (q : TxReq) : (s.issue q).seq.argA = s.seq.argA := rfl
@[simp] theorem State.issue_seq_argB (s : State) (q : TxReq) : (s.issue q).seq.argB = s.seq.argB := rfl
@[simp] theorem State.issue_seq_timer (s : State) (q : TxReq) : (s.issue q).seq.timer = s.seq.timer := rfl
@[simp] theorem State.issue_seq_pos (s : State) (q : TxReq) : (s.issue q).seq.pos = s.seq.pos := rfl
@[simp] theorem State.issue_tx (s : State) (q : TxReq) : (s.issue q).tx = some q := rfl
@[simp] theorem State.issue_rsp (s : State) (q : TxReq) : (s.issue q).rsp = s.rsp := rfl
@[simp] theorem State.issue_cmds (s : State) (q : TxReq) : (s.issue q).cmds = s.cmds := rfl
@[simp] theorem State.issue_inputs (s : State) (q : TxReq) : (s.issue q).inputs = s.inputs := rfl
@[simp] theorem State.issue_trace (s : State) (q : TxReq) : (s.issue q).trace = s.trace ++ [.tx q] := rfl

@[simp] theorem State.startWait_regs (s : State) (ms : Nat) : (s.startWait ms).regs = s.regs := rfl
@[simp] theorem State.startWait_seq_timer (s : State) (ms : Nat) : (s.startWait ms).seq.timer = 0 := rfl
@[simp] theorem State.startWait_seq_op (s : State) (ms : Nat) : (s.startWait ms).seq.op = s.seq.op := rfl
@[simp] theorem State.startWait_seq_step (s : State) (ms : Nat) : (s.startWait ms).seq.step = s.seq.step := rfl
@[simp] theorem State.startWait_seq_argA (s : State) (ms : Nat) : (s.startWait ms).seq.argA = s.seq.argA := rfl
@[simp] theorem State.startWait_seq_argB (s : State) (ms : Nat) : (s.startWait ms).seq.argB = s.seq.argB := rfl
@[simp] theorem State.startWait_seq_pos (s : State) (ms : Nat) : (s.startWait ms).seq.pos = s.seq.pos := rfl
@[simp] theorem State.startWait_tx (s : State) (ms : Nat) : (s.startWait ms).tx = s.tx := rfl
@[simp] theorem State.startWait_rsp (s : State) (ms : Nat) : (s.startWait ms).rsp = s.rsp := rfl
@[simp] theorem State.startWait_cmds (s : State) (ms : Nat) : (s.startWait ms).cmds = s.cmds := rfl
@[simp] theorem State.startWait_inputs (s : State) (ms : Nat) : (s.startWait ms).inputs = s.inputs := rfl
@[simp] theorem State.startWait_trace (s : State) (ms : Nat) : (s.startWait ms).trace = s.trace ++ [.wait ms] := rfl

@[simp] theorem State.emit_regs (s : State) (r : Response) : (s.emit r).regs = s.regs := rfl
@[simp] theorem State.emit_seq_op (s : State) (r : Response) : (s.emit r).seq.op = none := rfl
@[simp] theorem State.emit_seq_step (s : State) (r : Response) : (s.emit r).seq.step = s.seq.step := rfl
@[simp] theorem State.emit_seq_argA (s : State) (r : Response) : (s.emit r).seq.argA = s.seq.argA := rfl
@[simp] theorem State.emit_seq_argB (s : State) (r : Response) : (s.emit r).seq.argB = s.seq.argB := rfl
@[simp] theorem State.emit_seq_timer (s : State) (r : Response) : (s.emit r).seq.timer = s.seq.timer := rfl
@[simp] theorem State.emit_seq_pos (s : State) (r : Response) : (s.emit r).seq.pos = s.seq.pos := rfl
@[simp] theorem State.emit_tx (s : State) (r : Response) : (s.emit r).tx = none := rfl
@[simp] theorem State.emit_rsp (s : State) (r : Response) : (s.emit r).rsp = some r := rfl
@[simp] theorem State.emit_cmds (s : State) (r : Response) : (s.emit r).cmds = s.cmds := rfl
@[simp] theorem State.emit_inputs (s : State) (r : Response) : (s.emit r).inputs = s.inputs := rfl
@[simp] theorem State.emit_trace (s : State) (r : Response) : (s.emit r).trace = s.trace ++ [.rsp r] := rfl

@[simp] theorem State.takeResponse_regs (s : State) : (s.takeResponse).regs = s.regs := rfl
@[simp] theorem State.takeResponse_seq (s : State) : (s.takeResponse).seq = s.seq := rfl
@[simp] theorem State.takeResponse_tx (s : State) : (s.takeResponse).tx = s.tx := rfl
@[simp] theorem State.takeResponse_rsp (s : State) : (s.takeResponse).rsp = none := rfl
@[simp] theorem State.takeResponse_cmds (s : State) : (s.takeResponse).cmds = s.cmds := rfl
@[simp] theorem State.takeResponse_inputs (s : State) : (s.takeResponse).inputs = s.inputs := rfl
@[simp] theorem State.takeResponse_trace (s : State) : (s.takeResponse).trace = s.trace := rfl

@[simp] theorem State.raise_regs_x (s : State) (c : Cause) : (s.raise c).regs.x = s.regs.x := rfl
@[simp] theorem State.raise_regs_d (s : State) (c : Cause) : (s.raise c).regs.d = s.regs.d := rfl
@[simp] theorem State.raise_regs_life (s : State) (c : Cause) : (s.raise c).regs.life = c.lifeAfter s.seq.op s.regs.life := rfl
@[simp] theorem State.raise_seq_op (s : State) (c : Cause) : (s.raise c).seq.op = none := rfl
@[simp] theorem State.raise_seq_step (s : State) (c : Cause) : (s.raise c).seq.step = s.seq.step := rfl
@[simp] theorem State.raise_seq_argA (s : State) (c : Cause) : (s.raise c).seq.argA = s.seq.argA := rfl
@[simp] theorem State.raise_seq_argB (s : State) (c : Cause) : (s.raise c).seq.argB = s.seq.argB := rfl
@[simp] theorem State.raise_seq_timer (s : State) (c : Cause) : (s.raise c).seq.timer = s.seq.timer := rfl
@[simp] theorem State.raise_seq_pos (s : State) (c : Cause) : (s.raise c).seq.pos = s.seq.pos := rfl
@[simp] theorem State.raise_tx (s : State) (c : Cause) : (s.raise c).tx = none := rfl
@[simp] theorem State.raise_rsp (s : State) (c : Cause) : (s.raise c).rsp = some (c.response s.seq.step) := rfl
@[simp] theorem State.raise_cmds (s : State) (c : Cause) : (s.raise c).cmds = s.cmds := rfl
@[simp] theorem State.raise_inputs (s : State) (c : Cause) : (s.raise c).inputs = s.inputs := rfl
@[simp] theorem State.raise_trace (s : State) (c : Cause) : (s.raise c).trace = s.trace ++ [.rsp (c.response s.seq.step)] := rfl

@[simp] theorem State.hardReset_regs (s : State) : (s.hardReset).regs = Regs.reset := rfl
@[simp] theorem State.hardReset_seq (s : State) : (s.hardReset).seq = Seq.reset := rfl
@[simp] theorem State.hardReset_tx (s : State) : (s.hardReset).tx = none := rfl
@[simp] theorem State.hardReset_rsp (s : State) : (s.hardReset).rsp = none := rfl
@[simp] theorem State.hardReset_cmds (s : State) : (s.hardReset).cmds = s.cmds := rfl
@[simp] theorem State.hardReset_inputs (s : State) : (s.hardReset).inputs = s.inputs := rfl
@[simp] theorem State.hardReset_trace (s : State) : (s.hardReset).trace = s.trace := rfl

@[simp] theorem State.accept_regs (s : State) (op : Opcode) (a b : Int) : (s.accept op a b).regs = s.regs := rfl
@[simp] theorem State.accept_seq_op (s : State) (op : Opcode) (a b : Int) : (s.accept op a b).seq.op = some op := rfl
@[simp] theorem State.accept_seq_step (s : State) (op : Opcode) (a b : Int) : (s.accept op a b).seq.step = 0 := rfl
@[simp] theorem State.accept_seq_argA (s : State) (op : Opcode) (a b : Int) : (s.accept op a b).seq.argA = a := rfl
@[simp] theorem State.accept_seq_argB (s : State) (op : Opcode) (a b : Int) : (s.accept op a b).seq.argB = b := rfl
@[simp] theorem State.accept_seq_timer (s : State) (op : Opcode) (a b : Int) : (s.accept op a b).seq.timer = s.seq.timer := rfl
@[simp] theorem State.accept_seq_pos (s : State) (op : Opcode) (a b : Int) : (s.accept op a b).seq.pos = 0 := rfl
@[simp] theorem State.accept_tx (s : State) (op : Opcode) (a b : Int) : (s.accept op a b).tx = s.tx := rfl
@[simp] theorem State.accept_rsp (s : State) (op : Opcode) (a b : Int) : (s.accept op a b).rsp = s.rsp := rfl
@[simp] theorem State.accept_cmds (s : State) (op : Opcode) (a b : Int) : (s.accept op a b).cmds = s.cmds := rfl
@[simp] theorem State.accept_inputs (s : State) (op : Opcode) (a b : Int) : (s.accept op a b).inputs = s.inputs := rfl
@[simp] theorem State.accept_trace (s : State) (op : Opcode) (a b : Int) : (s.accept op a b).trace = s.trace := rfl

@[simp] theorem State.dropFetched_regs (s : State) : (s.dropFetched).regs = s.regs := rfl
@[simp] theorem State.dropFetched_seq (s : State) : (s.dropFetched).seq = s.seq := rfl
@[simp] theorem State.dropFetched_tx (s : State) : (s.dropFetched).tx = s.tx := rfl
@[simp] theorem State.dropFetched_rsp (s : State) : (s.dropFetched).rsp = s.rsp := rfl
@[simp] theorem State.dropFetched_cmds (s : State) : (s.dropFetched).cmds = s.cmds.tail := rfl
@[simp] theorem State.dropFetched_inputs (s : State) : (s.dropFetched).inputs = s.inputs := rfl
@[simp] theorem State.dropFetched_trace (s : State) : (s.dropFetched).trace = s.trace := rfl

@[simp] theorem State.answered_regs (s : State) (m : Micro) (rdata : BitVec 32) :
    (s.answered m rdata).regs = m.store rdata s.regs := rfl
@[simp] theorem State.answered_seq_op (s : State) (m : Micro) (rdata : BitVec 32) :
    (s.answered m rdata).seq.op = s.seq.op := rfl
@[simp] theorem State.answered_seq_step (s : State) (m : Micro) (rdata : BitVec 32) :
    (s.answered m rdata).seq.step = s.seq.step := rfl
@[simp] theorem State.answered_seq_argA (s : State) (m : Micro) (rdata : BitVec 32) :
    (s.answered m rdata).seq.argA = s.seq.argA := rfl
@[simp] theorem State.answered_seq_argB (s : State) (m : Micro) (rdata : BitVec 32) :
    (s.answered m rdata).seq.argB = s.seq.argB := rfl
@[simp] theorem State.answered_seq_timer (s : State) (m : Micro) (rdata : BitVec 32) :
    (s.answered m rdata).seq.timer = s.seq.timer := rfl
@[simp] theorem State.answered_seq_pos (s : State) (m : Micro) (rdata : BitVec 32) :
    (s.answered m rdata).seq.pos = s.seq.pos + 1 := rfl
@[simp] theorem State.answered_tx (s : State) (m : Micro) (rdata : BitVec 32) :
    (s.answered m rdata).tx = none := rfl
@[simp] theorem State.answered_rsp (s : State) (m : Micro) (rdata : BitVec 32) :
    (s.answered m rdata).rsp = s.rsp := rfl
@[simp] theorem State.answered_cmds (s : State) (m : Micro) (rdata : BitVec 32) :
    (s.answered m rdata).cmds = s.cmds := rfl
@[simp] theorem State.answered_inputs (s : State) (m : Micro) (rdata : BitVec 32) :
    (s.answered m rdata).inputs = s.inputs := rfl
@[simp] theorem State.answered_trace (s : State) (m : Micro) (rdata : BitVec 32) :
    (s.answered m rdata).trace = s.trace := rfl

/-! ### Updates of the register files -/

@[simp] theorem Regs.setBassBoost_x (b : Bool) (r : Regs) : (r.setBassBoost b).x = r.x := rfl
@[simp] theorem Regs.setBassBoost_life (b : Bool) (r : Regs) : (r.setBassBoost b).life = r.life := rfl
@[simp] theorem Regs.setBassBoost_d (b : Bool) (r : Regs) : (r.setBassBoost b).d = { r.d with bassBoost := b } := rfl
@[simp] theorem Regs.setMono_x (b : Bool) (r : Regs) : (r.setMono b).x = r.x := rfl
@[simp] theorem Regs.setMono_life (b : Bool) (r : Regs) : (r.setMono b).life = r.life := rfl
@[simp] theorem Regs.setMono_d (b : Bool) (r : Regs) : (r.setMono b).d = { r.d with mono := b } := rfl
@[simp] theorem Regs.setMute_x (b : Bool) (r : Regs) : (r.setMute b).x = r.x := rfl
@[simp] theorem Regs.setMute_life (b : Bool) (r : Regs) : (r.setMute b).life = r.life := rfl
@[simp] theorem Regs.setMute_d (b : Bool) (r : Regs) : (r.setMute b).d = { r.d with mute := b } := rfl
@[simp] theorem Regs.setSoftMute_x (b : Bool) (r : Regs) : (r.setSoftMute b).x = r.x := rfl
@[simp] theorem Regs.setSoftMute_life (b : Bool) (r : Regs) : (r.setSoftMute b).life = r.life := rfl
@[simp] theorem Regs.setSoftMute_d (b : Bool) (r : Regs) : (r.setSoftMute b).d = { r.d with softMute := b } := rfl
@[simp] theorem Regs.setRds_x (b : Bool) (r : Regs) : (r.setRds b).x = r.x := rfl
@[simp] theorem Regs.setRds_life (b : Bool) (r : Regs) : (r.setRds b).life = r.life := rfl
@[simp] theorem Regs.setRds_d (b : Bool) (r : Regs) : (r.setRds b).d = { r.d with rds := b } := rfl
@[simp] theorem Regs.setTuned_x (b : Bool) (r : Regs) : (r.setTuned b).x = r.x := rfl
@[simp] theorem Regs.setTuned_life (b : Bool) (r : Regs) : (r.setTuned b).life = r.life := rfl
@[simp] theorem Regs.setTuned_d (b : Bool) (r : Regs) : (r.setTuned b).d = { r.d with tuned := b } := rfl
@[simp] theorem Regs.setVolume_x (v : BitVec 4) (r : Regs) : (r.setVolume v).x = r.x := rfl
@[simp] theorem Regs.setVolume_life (v : BitVec 4) (r : Regs) : (r.setVolume v).life = r.life := rfl
@[simp] theorem Regs.setVolume_d (v : BitVec 4) (r : Regs) : (r.setVolume v).d = { r.d with volume := v } := rfl
@[simp] theorem Regs.setBand_x (b : Band) (r : Regs) : (r.setBand b).x = r.x := rfl
@[simp] theorem Regs.setBand_life (b : Band) (r : Regs) : (r.setBand b).life = r.life := rfl
@[simp] theorem Regs.setBand_d (b : Band) (r : Regs) : (r.setBand b).d = { r.d with band := b } := rfl
@[simp] theorem Regs.setLife_x (l : Life) (r : Regs) : (r.setLife l).x = r.x := rfl
@[simp] theorem Regs.setLife_life (l : Life) (r : Regs) : (r.setLife l).life = l := rfl
@[simp] theorem Regs.setLife_d (l : Life) (r : Regs) : (r.setLife l).d = r.d := rfl
@[simp] theorem Regs.readbackFrequency_x (r : Regs) : r.readbackFrequency.x = r.x := rfl
@[simp] theorem Regs.readbackFrequency_life (r : Regs) : r.readbackFrequency.life = r.life := rfl
@[simp] theorem Regs.readbackFrequency_d (r : Regs) :
    r.readbackFrequency.d = { r.d with frequency := freqOf r.x[Config.RA] } := rfl
@[simp] theorem Regs.readbackRssi_x (r : Regs) : r.readbackRssi.x = r.x := rfl
@[simp] theorem Regs.readbackRssi_life (r : Regs) : r.readbackRssi.life = r.life := rfl
@[simp] theorem Regs.readbackRssi_d (r : Regs) :
    r.readbackRssi.d = { r.d with rssi := rssiOf r.x[Config.RB] } := rfl
@[simp] theorem Regs.readbackRds_x (r : Regs) : r.readbackRds.x = r.x := rfl
@[simp] theorem Regs.readbackRds_life (r : Regs) : r.readbackRds.life = r.life := rfl
@[simp] theorem Regs.readbackRds_d (r : Regs) :
    r.readbackRds.d = { r.d with rds := testBit r.x[Config.RA] Config.BIT_RA_RDS } := rfl
@[simp] theorem Regs.readbackTuned_x (r : Regs) : r.readbackTuned.x = r.x := rfl
@[simp] theorem Regs.readbackTuned_life (r : Regs) : r.readbackTuned.life = r.life := rfl
@[simp] theorem Regs.readbackTuned_d (r : Regs) :
    r.readbackTuned.d = { r.d with tuned := testBit r.x[Config.RB] Config.BIT_RB_FMTRUE } := rfl
@[simp] theorem Regs.readbackMono_x (r : Regs) : r.readbackMono.x = r.x := rfl
@[simp] theorem Regs.readbackMono_life (r : Regs) : r.readbackMono.life = r.life := rfl
@[simp] theorem Regs.readbackMono_d (r : Regs) :
    r.readbackMono.d = { r.d with mono := testBit r.x[Config.CTRL] Config.BIT_MONO } := rfl

/-- Testing a one-bit mask reads that bit. -/
theorem testBit_twoPow (v : Word) (k : Nat) : testBit v (BitVec.twoPow 16 k) = v.getLsbD k := by
  unfold testBit
  rw [BitVec.and_twoPow]
  by_cases hk : k < 16
  · cases h : v.getLsbD k <;> simp [← BitVec.toNat_inj, Nat.mod_eq_of_lt (Nat.pow_lt_pow_right _ hk)]
  · simp [BitVec.getLsbD_of_ge v k (by omega)]

/-- The RDS-ready bit is bit 15 (R33). -/
theorem testBit_rds (v : Word) : testBit v Config.BIT_RA_RDS = v.getLsbD 15 := testBit_twoPow v 15

/-- The FM-true bit is bit 8 (R34). -/
theorem testBit_fmTrue (v : Word) : testBit v Config.BIT_RB_FMTRUE = v.getLsbD 8 := testBit_twoPow v 8

/-- The MONO bit is bit 13 (R27). -/
theorem testBit_mono (v : Word) : testBit v Config.BIT_MONO = v.getLsbD 13 := testBit_twoPow v 13

/-! ### Shadow slots -/

@[simp] theorem Regs.setSlot_d (r : Regs) (a : Slot) (v : Word) : (r.setSlot a v).d = r.d := rfl
@[simp] theorem Regs.setSlot_life (r : Regs) (a : Slot) (v : Word) : (r.setSlot a v).life = r.life := rfl

/-- A slot reads what was written to it. -/
@[simp] theorem Regs.setSlot_same (r : Regs) (a : Slot) (v : Word) : (r.setSlot a v).x[a] = v := by
  simp [Regs.setSlot]

/-- A write leaves every other slot alone. -/
theorem Regs.setSlot_other (r : Regs) (a b : Slot) (v : Word) (h : a ≠ b) : (r.setSlot a v).x[b] = r.x[b] := by
  simp [Regs.setSlot, Fin.val_inj, h]

/-- What a slot reads after a write. -/
theorem Regs.setSlot_get (r : Regs) (a b : Slot) (v : Word) :
    (r.setSlot a v).x[b] = if a = b then v else r.x[b] := by
  split
  · next h => subst h; exact setSlot_same r a v
  · next h => exact setSlot_other r a b v h

/-- Of two writes to one slot the second stands. -/
@[simp] theorem Regs.setSlot_setSlot (r : Regs) (a : Slot) (v w : Word) :
    (r.setSlot a v).setSlot a w = r.setSlot a w := by
  simp only [Regs.setSlot, Regs.mk.injEq, and_true]
  ext i hi
  simp [Vector.getElem_set]

@[simp] theorem Regs.setBits_d (r : Regs) (a : Slot) (m : Word) : (r.setBits a m).d = r.d := rfl
@[simp] theorem Regs.setBits_life (r : Regs) (a : Slot) (m : Word) : (r.setBits a m).life = r.life := rfl
@[simp] theorem Regs.clearBits_d (r : Regs) (a : Slot) (m : Word) : (r.clearBits a m).d = r.d := rfl
@[simp] theorem Regs.clearBits_life (r : Regs) (a : Slot) (m : Word) : (r.clearBits a m).life = r.life := rfl

@[simp] theorem Regs.toggleBits_d (r : Regs) (a : Slot) (m : Word) (b : Bool) : (r.toggleBits a m b).d = r.d := by
  cases b <;> rfl

@[simp] theorem Regs.toggleBits_life (r : Regs) (a : Slot) (m : Word) (b : Bool) :
    (r.toggleBits a m b).life = r.life := by
  cases b <;> rfl

@[simp] theorem Regs.storeBurst_d (rdata : BitVec 32) (r : Regs) : (r.storeBurst rdata).d = r.d := rfl
@[simp] theorem Regs.storeBurst_life (rdata : BitVec 32) (r : Regs) : (r.storeBurst rdata).life = r.life := rfl

/-- The toggle pattern as one write of the slot (R165). -/
theorem Regs.toggleBits_eq (r : Regs) (a : Slot) (m : Word) (b : Bool) :
    r.toggleBits a m b = r.setSlot a (if b then r.x[a] ||| m else r.x[a] &&& ~~~m) := by
  cases b <;> rfl

end Sys2Proof.Machine
end

