-- ==== Sys2Proof/Laws/Ops.lean ====
section
/-! SUPPORT. Laws/Ops.lean: for each shared operation one lemma that says once everything it can do. -/

namespace Sys2Proof.Machine

open Sys2Proof

/-! ### Micro-steps -/

@[simp] theorem runFrom_nil (s : State) : runFrom [] s = s := rfl
@[simp] theorem runFrom_update (f : Regs → Regs) (ms : List Micro) (s : State) :
    runFrom (.update f :: ms) s =
      runFrom ms { s with regs := f s.regs, seq := { s.seq with pos := s.seq.pos + 1 } } := rfl
@[simp] theorem runFrom_writeReg (a : Slot) (ms : List Micro) (s : State) :
    runFrom (.writeReg a :: ms) s = s.issue (s.regs.writeRequest a) := rfl
@[simp] theorem runFrom_readReg (a : Slot) (ms : List Micro) (s : State) :
    runFrom (.readReg a :: ms) s = s.issue (readRequest a) := rfl
@[simp] theorem runFrom_readSeq (ms : List Micro) (s : State) :
    runFrom (.readSeq :: ms) s = s.issue burstRequest := rfl
@[simp] theorem runFrom_wait (n : Nat) (ms : List Micro) (s : State) :
    runFrom (.wait n :: ms) s = s.startWait n := rfl
@[simp] theorem runFrom_respond (f : Regs → Result) (ms : List Micro) (s : State) :
    runFrom (.respond f :: ms) s = s.emit (okResponse (f s.regs)) := rfl

/-- Micro-steps touch neither what the host presents nor what is to come. -/
theorem runFrom_frame (ms : List Micro) (s : State) :
    (runFrom ms s).cmds = s.cmds ∧ (runFrom ms s).inputs = s.inputs ∧
      (runFrom ms s).seq.argA = s.seq.argA ∧ (runFrom ms s).seq.argB = s.seq.argB := by
  induction ms generalizing s with
  | nil => simp
  | cons m ms ih =>
    cases m with
    | update f => rw [runFrom_update]; exact ih _
    | _ => simp

/-- Micro-steps from `ms` on keep whatever each internal update, each issue, each start of a Wait and each response
keep. -/
theorem runFrom_keeps (P : State → Prop)
    (hissue : ∀ s q, P s → P (s.issue q)) (hwait : ∀ s n, P s → P (s.startWait n))
    (hemit : ∀ s r, P s → P (s.emit r)) (ms : List Micro)
    (hupd : ∀ f, Micro.update f ∈ ms → ∀ s : State, P s →
      P { s with regs := f s.regs, seq := { s.seq with pos := s.seq.pos + 1 } })
    (s : State) (h : P s) : P (runFrom ms s) := by
  induction ms generalizing s with
  | nil => exact h
  | cons m ms ih =>
    cases m with
    | update f =>
      rw [runFrom_update]
      exact ih (fun g hg => hupd g (List.mem_cons_of_mem _ hg)) _ (hupd f List.mem_cons_self s h)
    | writeReg a => exact hissue s _ h
    | readReg a => exact hissue s _ h
    | readSeq => exact hissue s _ h
    | wait n => exact hwait s n h
    | respond f => exact hemit s _ h

/-! ### Inputs -/

/-- What strobes can do: nothing, count on in a Wait, or end the Wait and go on behind it. -/
theorem onTicks_cases (body : List Micro) (count : Nat) (s : State) :
    onTicks body count s = s ∨
    (∃ ms rest, s.tx = none ∧ body.drop s.seq.pos = .wait ms :: rest ∧ s.seq.timer + count < ms ∧
      onTicks body count s = { s with seq := { s.seq with timer := s.seq.timer + count } }) ∨
    (∃ ms rest, s.tx = none ∧ body.drop s.seq.pos = .wait ms :: rest ∧ ms ≤ s.seq.timer + count ∧
      onTicks body count s =
        runFrom rest { s with seq := { s.seq with timer := s.seq.timer + count, pos := s.seq.pos + 1 } }) := by
  unfold onTicks
  split
  · next ms rest htx hdrop =>
    split
    · next hle => exact .inr (.inr ⟨ms, rest, htx, hdrop, hle, rfl⟩)
    · next hgt => exact .inr (.inl ⟨ms, rest, htx, hdrop, by omega, rfl⟩)
  · exact .inl rfl

/-- What an answer can do: nothing when no request is in flight, take the error, or store its data and go on. -/
theorem onAnswer_cases (body : List Micro) (ok : Bool) (err : BitVec 2) (rdata : BitVec 32) (s : State) :
    (s.tx = none ∧ onAnswer body ok err rdata s = s) ∨
    (∃ q, s.tx = some q ∧ ok = false ∧ onAnswer body ok err rdata s =
      (s.observe (.answer ok err rdata)).raise (.transport (TxError.ofBits err) q)) ∨
    (∃ q, s.tx = some q ∧ ok = true ∧ body.drop s.seq.pos = [] ∧
      onAnswer body ok err rdata s = s.observe (.answer ok err rdata)) ∨
    (∃ q m rest, s.tx = some q ∧ ok = true ∧ body.drop s.seq.pos = m :: rest ∧
      onAnswer body ok err rdata s = runFrom rest ((s.observe (.answer ok err rdata)).answered m rdata)) := by
  unfold onAnswer
  cases htx : s.tx with
  | none => exact .inl ⟨rfl, rfl⟩
  | some q =>
    cases ok with
    | false => exact .inr (.inl ⟨q, rfl, rfl, rfl⟩)
    | true =>
      cases hdrop : body.drop s.seq.pos with
      | nil => exact .inr (.inr (.inl ⟨q, rfl, rfl, rfl, by simp⟩))
      | cons m rest => exact .inr (.inr (.inr ⟨q, m, rest, rfl, rfl, rfl, by simp⟩))

/-- A command with no inputs left stays where it is. -/
@[simp] theorem drive_nil (body : List Micro) (s : State) : drive body [] s = { s with inputs := [] } := rfl

/-- A command that has ended consumes no more inputs. -/
theorem drive_idle (body : List Micro) (es : List Input) (s : State) (h : s.seq.op = none) :
    drive body es s = { s with inputs := es } := by
  cases es with
  | nil => rfl
  | cons e es => simp [drive, h]

/-- A running command takes the next input. -/
theorem drive_busy (body : List Micro) (e : Input) (es : List Input) (s : State) (op : Opcode)
    (h : s.seq.op = some op) : drive body (e :: es) s = drive body es (onInput body e s) := by
  simp [drive, h]

/-- What every input of a running command keeps, the whole run keeps. -/
theorem drive_keeps (body : List Micro) (P : State → Prop)
    (hin : ∀ s es, P s → P { s with inputs := es })
    (hstep : ∀ e s op, s.seq.op = some op → P s → P (onInput body e s))
    (es : List Input) (s : State) (h : P s) : P (drive body es s) := by
  induction es generalizing s with
  | nil => exact hin s [] h
  | cons e es ih =>
    cases hop : s.seq.op with
    | none => rw [drive_idle body _ s hop]; exact hin s _ h
    | some op => rw [drive_busy body e es s op hop]; exact ih _ (hstep e s op hop h)

/-- Strobes that do not count a Wait out only count on, in however many pieces they come (R280). -/
theorem drive_waiting (body : List Micro) (ks : List Nat) (es : List Input) (s : State) (op : Opcode) (n : Nat)
    (rest : List Micro) (hop : s.seq.op = some op) (htx : s.tx = none)
    (hdrop : body.drop s.seq.pos = .wait n :: rest) (hlt : s.seq.timer + ks.sum < n) :
    drive body (ks.map .ticks ++ es) s =
      drive body es { s with seq := { s.seq with timer := s.seq.timer + ks.sum } } := by
  induction ks generalizing s with
  | nil => simp
  | cons k ks ih =>
    simp only [List.sum_cons] at hlt
    rw [List.map_cons, List.cons_append, drive_busy body _ _ s op hop]
    have hstep : onInput body (.ticks k) s = { s with seq := { s.seq with timer := s.seq.timer + k } } := by
      simp only [onInput, onTicks, htx, hdrop]
      rw [if_neg (by omega)]
    rw [hstep, ih _ (by exact hop) (by exact htx) (by exact hdrop) (by simp only; omega)]
    simp [Nat.add_assoc]

/-! ### Commands -/

/-- A refused command takes its lifecycle error. -/
theorem command_refused (op : Opcode) (a b : Int) (body : List Micro) (s : State) (c : Cause)
    (h : lifecycleError op s.regs.life = some c) : command op a b body s = .next (s.raise c) := by
  simp [command, h]

/-- An accepted command runs its body. -/
theorem command_accepted (op : Opcode) (a b : Int) (body : List Micro) (s : State)
    (h : lifecycleError op s.regs.life = none) :
    command op a b body s = .next (drive body s.inputs (runFrom body (s.accept op a b))) := by
  simp [command, h]

/-- A READY RSEQ accepts every command (R42, R237). -/
@[simp] theorem lifecycleError_ready (op : Opcode) : lifecycleError op .ready = none := by
  cases op <;> rfl

/-- INIT is accepted in every state (R42, R237). -/
@[simp] theorem lifecycleError_init (life : Life) : lifecycleError .init life = none := rfl

/-- What a command can do: take its lifecycle error, or run its body. -/
theorem command_cases (op : Opcode) (a b : Int) (body : List Micro) (s : State) :
    (∃ c, lifecycleError op s.regs.life = some c ∧ command op a b body s = .next (s.raise c)) ∨
    (lifecycleError op s.regs.life = none ∧
      command op a b body s = .next (drive body s.inputs (runFrom body (s.accept op a b)))) := by
  cases h : lifecycleError op s.regs.life with
  | some c => exact .inl ⟨c, rfl, command_refused op a b body s c h⟩
  | none => exact .inr ⟨rfl, command_accepted op a b body s h⟩

/-! ### Dispatch and step -/

@[simp] theorem argBool_boolArg (b : Bool) : argBool (boolArg b) = b := by cases b <;> rfl
@[simp] theorem argBand_bandArg (b : Band) : argBand (bandArg b) = b := by cases b <;> rfl

/-- Every command is `command` with the body that the sequencer's registers name. -/
theorem exec_eq_command (i : Instr) (s : State) :
    exec i s = command i.opcode (commandArgs i).1 (commandArgs i).2 (bodyOf i.opcode (commandArgs i).1 (commandArgs i).2) s := by
  cases i <;>
    simp [exec, commandArgs, bodyOf, Instr.opcode, execInit, execTerm, execSetfreq, execGetfreq, execFormatfreq, execSetbass,
      execSetmono, execSetmute, execSetsoftmute, execSetvolume, execSetband, execSeekup, execSeekdown, execSoftreset,
      execGetrssi, execGetradioinfo]

/-- What a step can do: go on with the running command, run the presented command, report the presented word as illegal,
or take the next input. -/
theorem step_cases (s : State) :
    (∃ op, s.seq.op = some op ∧ step s = .next (resume op s)) ∨
    (∃ w i, fetch s = some w ∧ decode w = .command i ∧ step s = exec i s.dropFetched) ∨
    (∃ w r, fetch s = some w ∧ decode w = .reject r ∧ step s = .next (s.dropFetched.raise (Cause.ofReject r))) ∨
    (s.seq.op = none ∧ fetch s = none ∧ step s = .next (idleStep s)) := by
  unfold step
  cases hop : s.seq.op with
  | some op => exact .inl ⟨op, rfl, rfl⟩
  | none =>
    cases hf : fetch s with
    | none => exact .inr (.inr (.inr ⟨rfl, rfl, rfl⟩))
    | some w =>
      cases hd : decode w with
      | command i => exact .inr (.inl ⟨w, i, rfl, hd, by simp [hd]⟩)
      | reject r => exact .inr (.inr (.inl ⟨w, r, rfl, hd, by simp [hd]⟩))

end Sys2Proof.Machine
end

