-- ==== Sys2Proof/Laws/PerInstr.lean ====
section
/-! SUPPORT. Laws/PerInstr.lean: statements for all commands, one lemma per command. `TableMatch`: the encoding of a
command matches its row of the opcode table (spec/30_encoding.md R96). -/

namespace Sys2Proof.Laws

open Sys2Proof

/-- Masking keeps the fields apart. -/
theorem packFields_and (o p : Byte) (a b c d : Field) :
    packFields o a b &&& packFields p c d = packFields (o &&& p) (a &&& c) (b &&& d) := by
  unfold packFields
  rw [BitVec.and_append, BitVec.and_append]

/-- The mask of a two-operand row keeps OPC. -/
theorem match_two (o : Byte) (a b : Field) :
    packFields o a b &&& 0xFF0000000000000000 = packFields o 0 0 := by
  rw [show (0xFF0000000000000000 : Command) = packFields 0xFF 0 0 from by decide, packFields_and]
  have h : o &&& 255#8 = o := BitVec.and_allOnes
  simp [h]

/-- The mask of a one-operand row keeps OPC and B. -/
theorem match_one (o : Byte) (a : Field) :
    packFields o a 0 &&& 0xFF00000000FFFFFFFF = packFields o 0 0 := by
  rw [show (0xFF00000000FFFFFFFF : Command) = packFields 0xFF 0 0xFFFFFFFF from by decide, packFields_and]
  have h : o &&& 255#8 = o := BitVec.and_allOnes
  simp [h]

/-- R96: the encoding of the command matches the row of its opcode. -/
def TableMatch.Statement (i : Instr) : Prop := encode i &&& i.opcode.maskWord = i.opcode.matchWord

theorem TableMatch.init (f0 v0 : Int) : TableMatch.Statement (.init f0 v0) := match_two _ _ _
theorem TableMatch.term : TableMatch.Statement .term := rfl
theorem TableMatch.setfreq (freq : Int) : TableMatch.Statement (.setfreq freq) := match_one _ _
theorem TableMatch.getfreq : TableMatch.Statement .getfreq := rfl
theorem TableMatch.formatfreq : TableMatch.Statement .formatfreq := rfl
theorem TableMatch.setbass (b : Bool) : TableMatch.Statement (.setbass b) := match_one _ _
theorem TableMatch.setmono (b : Bool) : TableMatch.Statement (.setmono b) := match_one _ _
theorem TableMatch.setmute (m : Bool) : TableMatch.Statement (.setmute m) := match_one _ _
theorem TableMatch.setsoftmute (s : Bool) : TableMatch.Statement (.setsoftmute s) := match_one _ _
theorem TableMatch.setvolume (vol : Int) : TableMatch.Statement (.setvolume vol) := match_one _ _
theorem TableMatch.setband (band : Band) : TableMatch.Statement (.setband band) := match_one _ _
theorem TableMatch.seekup : TableMatch.Statement .seekup := rfl
theorem TableMatch.seekdown : TableMatch.Statement .seekdown := rfl
theorem TableMatch.softreset : TableMatch.Statement .softreset := rfl
theorem TableMatch.getrssi : TableMatch.Statement .getrssi := rfl
theorem TableMatch.getradioinfo : TableMatch.Statement .getradioinfo := rfl

end Sys2Proof.Laws
end

