-- ==== Sys2Proof/Laws/Runs.lean ====
section
/-! SUPPORT. Laws/Runs.lean: the small lemmas of runs (spec/70_reset_and_hazards.md R282). -/

namespace Sys2Proof.Machine

open Sys2Proof

/-- `onward` is the state that the step answers. -/
theorem onward_of_next (s t : State) (h : step s = .next t) : onward s = t := by
  simp [onward, h]

/-- While a command runs, `onward` goes on with it. -/
theorem onward_busy (s : State) (op : Opcode) (h : s.seq.op = some op) : onward s = resume op s :=
  onward_of_next s _ (by simp [step, h])

@[simp] theorem runOn_zero (env : Nat → List Input) (s : State) : runOn env s 0 = s := rfl
@[simp] theorem runOn_succ (env : Nat → List Input) (s : State) (n : Nat) :
    runOn env s (n + 1) = onward { runOn env s n with inputs := (runOn env s n).inputs ++ env n } := rfl
@[simp] theorem strobesFrom_zero (env : Nat → List Input) (n : Nat) : strobesFrom env n 0 = 0 := rfl
@[simp] theorem strobesFrom_succ (env : Nat → List Input) (n k : Nat) :
    strobesFrom env n (k + 1) = strobesFrom env n k + strobes (env (n + k)) := rfl

/-- The strobes of two lists add up. -/
@[simp] theorem strobes_append (es fs : List Input) : strobes (es ++ fs) = strobes es + strobes fs := by
  induction es with
  | nil => simp [strobes]
  | cons e es ih => cases e <;> simp [strobes, ih, Nat.add_assoc]

end Sys2Proof.Machine
end

