-- ==== Sys2Proof/Machine/Assembler.lean ====
section
/-! DEFINITION. Machine/Assembler.lean: the assembler syntax of spec/30_encoding.md R99, on one line of text. No step
uses it. What R99 leaves open about the text is in notes/assumptions/19.md. -/

namespace Sys2Proof.Machine

open Sys2Proof

/-- A space or a tab. -/
def isBlank (c : Char) : Bool := c = ' ' || c = '\t'

/-- The text without blanks at either end. -/
def trim (cs : List Char) : List Char := ((cs.dropWhile isBlank).reverse.dropWhile isBlank).reverse

/-- The parts of the text between the commas. -/
def splitCommas : List Char → List (List Char)
  | [] => [[]]
  | c :: cs =>
    if c = ',' then [] :: splitCommas cs
    else match splitCommas cs with
      | [] => [[c]]
      | part :: parts => (c :: part) :: parts

/-- The value of a digit in a base up to 16; none for any other character. -/
def digitValue (base : Nat) (c : Char) : Option Nat :=
  let v :=
    if '0' ≤ c ∧ c ≤ '9' then c.toNat - '0'.toNat
    else if 'a' ≤ c ∧ c ≤ 'f' then c.toNat - 'a'.toNat + 10
    else if 'A' ≤ c ∧ c ≤ 'F' then c.toNat - 'A'.toNat + 10
    else 16
  if v < base then some v else none

/-- The number a run of digits stands for, on top of `acc`. -/
def numberAux (base : Nat) : Nat → List Char → Option Nat
  | acc, [] => some acc
  | acc, c :: cs => (digitValue base c).bind fun v => numberAux base (acc * base + v) cs

/-- The number a non-empty run of digits stands for. -/
def parseNat (base : Nat) (cs : List Char) : Option Nat :=
  if cs.isEmpty then none else numberAux base 0 cs

/-- An int operand: decimal with an optional `-`, or a `0x` hex literal, in the 32-bit range (R99). -/
def parseInt (cs : List Char) : Option Int :=
  let v : Option Int :=
    match cs with
    | '0' :: 'x' :: hex => (parseNat 16 hex).map Int.ofNat
    | '-' :: dec => (parseNat 10 dec).map fun n => -(n : Int)
    | dec => (parseNat 10 dec).map Int.ofNat
  v.bind fun n => if intInRange n then some n else none

/-- A bool operand: `0`, `1`, `off` or `on` (R99). -/
def parseBool (cs : List Char) : Option Bool :=
  if cs = ['0'] ∨ cs = ['o', 'f', 'f'] then some false
  else if cs = ['1'] ∨ cs = ['o', 'n'] then some true
  else none

/-- A band operand: `FM`, `FMWORLD`, `0` or `1` (R99). -/
def parseBand (cs : List Char) : Option Band :=
  if cs = ['0'] ∨ cs = ['F', 'M'] then some .fm
  else if cs = ['1'] ∨ cs = ['F', 'M', 'W', 'O', 'R', 'L', 'D'] then some .fmworld
  else none

/-- The spellings of each command in lower case: its mnemonic (R95) and the source's function name (R99). -/
def spellings : Opcode → List String
  | .init => ["init", "new"]
  | .term => ["term"]
  | .setfreq => ["setfreq"]
  | .getfreq => ["getfreq"]
  | .formatfreq => ["formatfreq"]
  | .setbass => ["setbass", "setbassboost"]
  | .setmono => ["setmono"]
  | .setmute => ["setmute"]
  | .setsoftmute => ["setsoftmute"]
  | .setvolume => ["setvolume"]
  | .setband => ["setband"]
  | .seekup => ["seekup"]
  | .seekdown => ["seekdown"]
  | .softreset => ["softreset"]
  | .getrssi => ["getrssi"]
  | .getradioinfo => ["getradioinfo"]

/-- Every command, in the order of the opcode map (R95). -/
def allOpcodes : List Opcode :=
  [.init, .term, .setfreq, .getfreq, .formatfreq, .setbass, .setmono, .setmute, .setsoftmute, .setvolume,
   .setband, .seekup, .seekdown, .softreset, .getrssi, .getradioinfo]

/-- The command a mnemonic or an alias names, in any mix of cases (R99). -/
def parseMnemonic (cs : List Char) : Option Opcode :=
  allOpcodes.find? fun op => (spellings op).any fun name => name.toList = cs.map Char.toLower

/-- One operand at most; a missing one is the text "0", which every kind reads as its code 0 (R99). -/
def oneOperand (args : List (List Char)) : Option (List Char) :=
  match args with
  | [] => some ['0']
  | [a] => some a
  | _ => none

/-- The command of a mnemonic and its operand texts (R99). -/
def assembleOperands (op : Opcode) (args : List (List Char)) : Option Instr :=
  let nullary (i : Instr) : Option Instr := if args.isEmpty then some i else none
  match op with
  | .init =>
    match args with
    | [] => some (.init 0 0)
    | [a] => (parseInt a).map fun f0 => .init f0 0
    | [a, b] => (parseInt a).bind fun f0 => (parseInt b).map fun v0 => .init f0 v0
    | _ => none
  | .term => nullary .term
  | .setfreq => (oneOperand args).bind fun a => (parseInt a).map .setfreq
  | .getfreq => nullary .getfreq
  | .formatfreq => nullary .formatfreq
  | .setbass => (oneOperand args).bind fun a => (parseBool a).map .setbass
  | .setmono => (oneOperand args).bind fun a => (parseBool a).map .setmono
  | .setmute => (oneOperand args).bind fun a => (parseBool a).map .setmute
  | .setsoftmute => (oneOperand args).bind fun a => (parseBool a).map .setsoftmute
  | .setvolume => (oneOperand args).bind fun a => (parseInt a).map .setvolume
  | .setband => (oneOperand args).bind fun a => (parseBand a).map .setband
  | .seekup => nullary .seekup
  | .seekdown => nullary .seekdown
  | .softreset => nullary .softreset
  | .getrssi => nullary .getrssi
  | .getradioinfo => nullary .getradioinfo

/-- The command a line of text stands for: `MNEMONIC [A [, B]]`, with `;` starting a comment (R99). -/
def assembleLine (line : List Char) : Option Instr :=
  let text := trim (line.takeWhile fun c => c ≠ ';')
  let mnemonic := text.takeWhile fun c => !isBlank c
  let operands := trim (text.dropWhile fun c => !isBlank c)
  (parseMnemonic mnemonic).bind fun op =>
    assembleOperands op (if operands.isEmpty then [] else (splitCommas operands).map trim)

/-- The command word a line of text stands for (R99). -/
def assemble (line : String) : Option Command := (assembleLine line.toList).map encode

end Sys2Proof.Machine
end

