-- ==== Sys2Proof/Machine/HostSurface.lean ====
section
/-! DEFINITION. Machine/HostSurface.lean: the host's character surface as a map onto commands (spec/30_encoding.md R112
to R114). It is outside RSEQ (spec/00_scope.md R5 (a), (e)) and no step uses it. The parameters of R6 that the spec leaves
OPEN (PRESETS, F_UNIT, INFO_REPORT) are the fields of `HostParams`, which every function of the surface takes as an
argument (93_implementation_defined.md I8; notes/assumptions/22.md). -/

namespace Sys2Proof.Machine

open Sys2Proof

/-- The single-character commands of the surface (R112). -/
inductive SurfaceKey where
  | help | volumeUp | volumeDown | nextPreset | prevPreset | seekUp | seekDown | tune | info
  | mono | bass | mute | rssi | softReset | terminate | quit
  deriving DecidableEq, Repr

/-- The byte of each key (R112, R113). -/
def SurfaceKey.byte : SurfaceKey → Byte
  | .help => 0x3F
  | .volumeUp => 0x2B
  | .volumeDown => 0x2D
  | .nextPreset => 0x3E
  | .prevPreset => 0x3C
  | .seekUp => 0x2E
  | .seekDown => 0x2C
  | .tune => 0x66
  | .info => 0x69
  | .mono => 0x73
  | .bass => 0x62
  | .mute => 0x75
  | .rssi => 0x72
  | .softReset => 0x65
  | .terminate => 0x21
  | .quit => 0x71

/-! ### The open parameters (R6, R114) -/

/-- PRESETS: the preset list with its order and its navigation; whether that wraps is left to `next` and `prev`. -/
structure Presets where
  /-- The preset frequencies in order, in 10 kHz units. -/
  frequencies : List Int
  /-- The place in the list that `>` goes to from a place; a place outside the list is no preset. -/
  next : Nat → Nat
  /-- The place in the list that `<` goes to from a place. -/
  prev : Nat → Nat

/-- INFO_REPORT: what the `i` report holds beyond GETRADIOINFO. -/
structure InfoReport where
  /-- The commands the host issues for the report after GETRADIOINFO. -/
  commands : List Instr
  /-- The text of the report, from the outputs and the responses of its commands, GETRADIOINFO's first. -/
  text : Outputs → List Response → List Byte

/-- The parameters of the host that the spec leaves open (R6, R114). -/
structure HostParams where
  /-- PRESETS. -/
  presets : Presets
  /-- F_UNIT: the frequency in 10 kHz units that an argument of `f` stands for; none where the text is no such argument. -/
  fUnit : List Byte → Option Int
  /-- INFO_REPORT. -/
  infoReport : InfoReport

/-! ### The map onto commands (R112, R113) -/

/-- What the host knows when a key comes. -/
structure HostView where
  /-- The outputs, read while RSEQ is idle (R112). -/
  outputs : Outputs
  /-- The place in the preset list. -/
  preset : Nat
  /-- The argument text that follows `f`. -/
  argument : List Byte
  deriving DecidableEq, Repr

/-- SETFREQ to a place in the preset list; no command where the list has no such place (R112). -/
def presetCommand (p : Presets) (place : Nat) : List Instr := (p.frequencies[place]?).toList.map .setfreq

/-- The commands a key stands for (R112); none for `?` and `q`. -/
def surfaceCommands (p : HostParams) (v : HostView) : SurfaceKey → List Instr
  | .help => []
  | .volumeUp => [.setvolume (v.outputs.volume.toNat + Config.volumeStep)]
  | .volumeDown => [.setvolume (v.outputs.volume.toNat - Config.volumeStep)]
  | .nextPreset => presetCommand p.presets (p.presets.next v.preset)
  | .prevPreset => presetCommand p.presets (p.presets.prev v.preset)
  | .seekUp => [.seekup]
  | .seekDown => [.seekdown]
  | .tune => (p.fUnit v.argument).toList.map .setfreq
  | .info => .getradioinfo :: p.infoReport.commands
  | .mono => [.setmono (!v.outputs.mono)]
  | .bass => [.setbass (!v.outputs.bass)]
  | .mute => [.setmute (!v.outputs.mute)]
  | .rssi => [.getrssi]
  | .softReset => [.softreset]
  | .terminate => [.term]
  | .quit => []

/-- The `i` report, from the outputs and the responses to the commands of `i` (R112, R114). -/
def surfaceReport (p : HostParams) (v : HostView) (answers : List Response) : List Byte :=
  p.infoReport.text v.outputs answers

end Sys2Proof.Machine
end

