-- ==== Sys2Proof/Tests/Slice0.lean ====
section
/-! SUPPORT. Tests/Slice0.lean: tests on fixed values, each expected value taken from the spec's examples
(spec/95_test_vectors.md and the rule named), and for every obligation with hypotheses a witness that meets them. -/

namespace Sys2Proof.Tests

open Sys2Proof Sys2Proof.Machine

/-! ### Helpers -/

/-- The register files at the end of program P1 (spec/95_test_vectors.md). -/
def p1Regs : Regs where
  x := #v[0x0058, 0, 0xD00D, 0x26D0, 0, 0x84D3, 0, 0, 0, 0, 0x009B, 0xA900, 0, 0, 0, 0]
  d := { frequency := 10250, volume := 3, bassBoost := true, mute := false, softMute := false, mono := false,
         rds := true, tuned := true, band := .fmworld, rssi := 0 }
  life := .ready

/-- The state at the end of P1, with what the outside does next. -/
def ready (es : List Input) : State := { State.reset with regs := p1Regs, inputs := es }

/-- The same with another value in one shadow slot. -/
def readyWith (a : Slot) (v : Word) (es : List Input) : State :=
  { State.reset with regs := p1Regs.setSlot a v, inputs := es }

/-- A successful answer with read data. -/
def ack (rdata : BitVec 32) : Input := .tx true 0 rdata

/-- A failing answer. -/
def nak (err : BitVec 2) : Input := .tx false err 0

/-- The state an outcome carries. -/
def landed : Host.Outcome State Fault Refusal → State
  | .next t => t
  | .fault _ => State.reset
  | .refused _ => State.reset

/-- The state a command ends in. -/
def ran (i : Instr) (s : State) : State := landed (exec i s)

/-- The transactions of a state's observation record. -/
def sent (s : State) : List TxReq := s.trace.filterMap fun
  | .tx q => some q
  | .answer _ _ _ => none
  | .wait _ => none
  | .rsp _ => none

/-- The Waits of a state's observation record. -/
def waited (s : State) : List Nat := s.trace.filterMap fun
  | .wait n => some n
  | .tx _ => none
  | .answer _ _ _ => none
  | .rsp _ => none

/-- A write transaction. -/
def W (a : Byte) (v : Word) : TxReq := ⟨.write, a, v⟩

/-- The burst transaction. -/
def S : TxReq := ⟨.readSeq, 0, 0⟩

/-- The pending response of a state is OK with this result and no text. -/
def okWith (s : State) (v : BitVec 32) : Bool := s.rsp = some ⟨0, v, [], 0, 0, 0⟩

/-- SETBASS 1 in the middle of its write. -/
def busy (es : List Input) : State :=
  { ready es with
    seq := { op := some .setbass, step := 1, argA := 1, argB := 0, timer := 0, pos := 2 }, tx := some (W 0x02 0xD00D) }

/-- SETFREQ 10050 in its first Wait, with 150 strobes counted. -/
def waiting (es : List Input) : State :=
  { readyWith 0x3 0x21D0 es with
    seq := { op := some .setfreq, step := 2, argA := 10050, argB := 0, timer := 150, pos := 4 } }

/-! ### Parameters (R6) -/

/-- The size parameters are the widths of the types. -/
theorem test_sizes :
    Word = BitVec Config.regW ∧ Addr = BitVec Config.addrW ∧ Field = BitVec Config.operandW ∧
    Slot = Fin Config.nShadow := ⟨rfl, rfl, rfl, rfl⟩

/-! ### WellFormed: an ill-formed term for each check is refused -/

theorem test_wf_init_f0 : (Instr.init 2147483648 0).wellFormed = false := by decide
theorem test_wf_init_v0 : (Instr.init 0 (-2147483649)).wellFormed = false := by decide
theorem test_wf_setfreq : (Instr.setfreq (-2147483649)).wellFormed = false := by decide
theorem test_wf_setvolume : (Instr.setvolume 2147483648).wellFormed = false := by decide

/-! ### Decoding: words written out from R90 and R95, one or more for each command -/

theorem test_decode_lifecycle :
    decode 0x010000280A00000003 = .command (.init 10250 3) ∧
    decode 0x0180000000FFFFFFF9 = .command (.init (-2147483648) (-7)) ∧
    decode 0x020000000000000000 = .command .term := by decide

theorem test_decode_frequency :
    decode 0x100001869F00000000 = .command (.setfreq 99999) ∧
    decode 0x10FFFFFFFF00000000 = .command (.setfreq (-1)) ∧
    decode 0x107FFFFFFF00000000 = .command (.setfreq 2147483647) ∧
    decode 0x110000000000000000 = .command .getfreq ∧
    decode 0x120000000000000000 = .command .formatfreq := by decide

theorem test_decode_controls :
    decode 0x200000000000000000 = .command (.setbass false) ∧
    decode 0x210000000100000000 = .command (.setmono true) ∧
    decode 0x220000000100000000 = .command (.setmute true) ∧
    decode 0x230000000100000000 = .command (.setsoftmute true) ∧
    decode 0x240000001400000000 = .command (.setvolume 20) ∧
    decode 0x24FFFFFFFB00000000 = .command (.setvolume (-5)) := by decide

theorem test_decode_band_seek :
    decode 0x300000000000000000 = .command (.setband .fm) ∧
    decode 0x300000000100000000 = .command (.setband .fmworld) ∧
    decode 0x310000000000000000 = .command .seekup ∧
    decode 0x320000000000000000 = .command .seekdown := by decide

theorem test_decode_reset_status :
    decode 0x400000000000000000 = .command .softreset ∧
    decode 0x410000000000000000 = .command .getrssi ∧
    decode 0x420000000000000000 = .command .getradioinfo := by decide

/-- V-D1 to V-D7: the reserved opcodes and the illegal operands. -/
theorem test_decode_rejects :
    decode 0x000000000000000000 = .reject .illegalOpcode ∧
    decode 0x430000000000000000 = .reject .illegalOpcode ∧
    decode 0x130000000000000000 = .reject .illegalOpcode ∧
    decode 0x200000000200000000 = .reject .illegalOperand ∧
    decode 0x300000000200000000 = .reject .illegalOperand ∧
    decode 0x110000000100000000 = .reject .illegalOperand ∧
    decode 0x240000000300000001 = .reject .illegalOperand := by decide

/-- The examples of R99 and the commands of P3, encoded. -/
theorem test_encode :
    encode (.init 10250 3) = 0x010000280A00000003 ∧ encode (.setfreq 99999) = 0x100001869F00000000 ∧
    encode (.setvolume (-5)) = 0x24FFFFFFFB00000000 ∧ encode (.setband .fmworld) = 0x300000000100000000 ∧
    encode .seekup = 0x310000000000000000 := by decide

/-- The fixed names on a row of the opcode table: the decoder reads it, and the step runs it (V-D8). -/
theorem test_table_word :
    decodeTableWord 72 0x24FFFFFFFB00000000 = some (.setvolume (-5)) ∧
    decodeTableWord 72 0x240000000300000001 = none ∧
    (landed (step (State.reset.withFetchWord 72 0x110000000000000000))).rsp = some ⟨0x20, 0, [], 0, 0, 0⟩ := by decide

/-! ### INIT (P1, V-I2, V-I4) -/

set_option maxRecDepth 4000 in
/-- P1: the transactions, the Waits and the end state. -/
theorem test_init_p1 :
    let t := ran (.init 10250 3) { State.reset with
      inputs := [ack 0, ack 0, ack 0, ack 0, ack 0, ack 0, .ticks 200, ack 0, .ticks 300, ack 0x009BA900, ack 0] }
    t.regs = p1Regs ∧ okWith t 0 ∧ waited t = [200, 300] ∧
    sent t = [W 0x02 0xC003, W 0x05 0x84D1, W 0x02 0xC00D, W 0x02 0xD00D, W 0x02 0xD00D, W 0x03 0x26D0,
      W 0x05 0x84D1, S,
      W 0x05 0x84D3] := by decide

set_option maxRecDepth 4000 in
/-- V-I4, P6: transaction 6 times out. -/
theorem test_init_timeout :
    let t := ran (.init 10250 3) { ready [ack 0, ack 0, ack 0, ack 0, ack 0, nak 2] with trace := [] }
    t.rsp = some ⟨0x02, 0, [], 6, 0x03, 2⟩ ∧ t.regs.life = .uninit ∧ t.regs.x[Config.CHAN] = 0x26D0 ∧
    t.regs.d.bassBoost = true ∧ t.regs.d.tuned = false ∧ t.regs.d.frequency = 0 := by decide

/-! ### Frequency (P2, P4, V-F) -/

set_option maxRecDepth 4000 in
/-- P2: an out-of-range tune whose readback is not clamped. -/
theorem test_setfreq_p2 :
    let t := ran (.setfreq 99999) (ready [ack 0, ack 0, .ticks 200, ack 0, .ticks 300, ack 0x00D3B100])
    sent t = [W 0x02 0xD00D, W 0x03 0x3490, W 0x05 0x84D3, S] ∧ t.regs.d.frequency = 10810 ∧ okWith t 0 := by decide

/-- P4: the CHAN write is not acknowledged. -/
theorem test_setfreq_p4 :
    let t := ran (.setfreq 9990) (ready [ack 0, nak 1])
    t.rsp = some ⟨0x01, 0, [], 2, 0x03, 1⟩ ∧ t.regs.x[Config.CHAN] = 0x2050 ∧ t.regs.d.frequency = 10250 ∧
    waited t = [] ∧ t.regs.life = .ready := by decide

/-- P2: GETFREQ ignores the high bits of RA. -/
theorem test_getfreq :
    let t := ran .getfreq (ready [ack 0x04D25800])
    okWith t 10800 ∧ t.regs.x[Config.RA] = 0x04D2 ∧ t.regs.x[Config.RB] = 0x5800 ∧ sent t = [S] := by decide

/-- V-F30, V-F31, V-F36, V-F39. -/
theorem test_render :
    render 10050 = [0x31, 0x30, 0x30, 0x2E, 0x35, 0x30, 0x20, 0x4D, 0x68, 0x7A] ∧
    render 8700 = [0x38, 0x37, 0x2E, 0x30, 0x30, 0x20, 0x4D, 0x68, 0x7A] ∧
    render 5 = [0x30, 0x2E, 0x30, 0x35, 0x20, 0x4D, 0x68, 0x7A] ∧
    render 65535 = [0x36, 0x35, 0x35, 0x2E, 0x33, 0x35, 0x20, 0x4D, 0x68, 0x7A] := by decide

/-- FORMATFREQ answers the text "102.50 Mhz" with no transaction. -/
theorem test_formatfreq :
    let t := ran .formatfreq (ready [])
    (t.rsp.map fun r => (r.text, r.textLen)) =
      some ([0x31, 0x30, 0x32, 0x2E, 0x35, 0x30, 0x20, 0x4D, 0x68, 0x7A], 10) ∧ sent t = [] := by decide

/-- V-F1 to V-F13. -/
theorem test_tune_values :
    tuneValue 50 = 0x0010 ∧ tuneValue 8709 = 0x0010 ∧ tuneValue 10050 = 0x21D0 ∧ tuneValue 10255 = 0x26D0 ∧
    tuneValue 10799 = 0x3450 ∧ tuneValue 99999 = 0x3490 ∧ tuneValue (-2147483648) = 0x0010 := by decide

/-! ### Controls (V-C) -/

/-- V-C1. -/
theorem test_setbass :
    let t := ran (.setbass false) (ready [ack 0])
    sent t = [W 0x02 0xC00D] ∧ t.regs.d.bassBoost = false ∧ okWith t 0 := by decide

/-- V-C26: no rollback. -/
theorem test_setbass_nack :
    let t := ran (.setbass false) (ready [nak 1])
    t.rsp = some ⟨0x01, 0, [], 1, 0x02, 1⟩ ∧ t.regs.x[Config.CTRL] = 0xC00D ∧ t.regs.d.bassBoost = false := by decide

/-- V-C12: SEEK is cleared. -/
theorem test_setmono_off : sent (ran (.setmono false) (readyWith 0x2 0xD10D [ack 0])) = [W 0x02 0xD00D] := by decide

/-- V-C13: SEEK is cleared, SEEKUP kept. -/
theorem test_setmono_on :
    let t := ran (.setmono true) (readyWith 0x2 0xD30D [ack 0])
    sent t = [W 0x02 0xF20D] ∧ t.regs.d.mono = true := by decide

/-- V-C16 and V-C15. -/
theorem test_setmute :
    sent (ran (.setmute true) (readyWith 0x2 0xF20D [ack 0])) = [W 0x02 0xB20D] ∧
    sent (ran (.setmute false) (readyWith 0x2 0x900D [ack 0])) = [W 0x02 0xD00D] := by decide

/-- V-C17 and V-C18. -/
theorem test_setsoftmute :
    sent (ran (.setsoftmute true) (ready [ack 0])) = [W 0x04 0x0200] ∧
    sent (ran (.setsoftmute false) (readyWith 0x4 0x0200 [ack 0])) = [W 0x04 0x0000] := by decide

/-- V-C20, V-C21, V-C22. -/
theorem test_setvolume :
    sent (ran (.setvolume 20) (ready [ack 0])) = [W 0x05 0x84DF] ∧
    sent (ran (.setvolume (-5)) (ready [ack 0])) = [W 0x05 0x84D0] ∧
    sent (ran (.setvolume 7) (ready [ack 0])) = [W 0x05 0x84D7] := by decide

/-! ### Band and seek (V-S) -/

/-- V-S1, V-S2. -/
theorem test_setband :
    let t := ran (.setband .fmworld) (ready [ack 0])
    sent t = [W 0x03 0x0008] ∧ t.regs.d.frequency = 10250 ∧
    sent (ran (.setband .fm) (ready [ack 0])) = [W 0x03 0x0000] := by decide

set_option maxRecDepth 4000 in
/-- V-S3. -/
theorem test_seekup :
    let t := ran .seekup (ready [ack 0, .ticks 999, .ticks 1, ack 0x8087A900, ack 0])
    sent t = [W 0x02 0xD30D, S, W 0x02 0xD20D] ∧ waited t = [1000] ∧ t.regs.d.frequency = 10050 ∧
    t.regs.x[Config.CHAN] = 0x26D0 ∧ okWith t 0 := by decide

set_option maxRecDepth 4000 in
/-- V-S6: the burst fails and SEEK stays set. -/
theorem test_seekup_burst_fails :
    let t := ran .seekup (ready [ack 0, .ticks 1000, nak 3])
    t.rsp = some ⟨0x03, 0, [], 2, 0x0A, 3⟩ ∧ t.regs.x[Config.CTRL] = 0xD30D ∧ t.regs.d.frequency = 10250 := by decide

set_option maxRecDepth 4000 in
/-- V-S4. -/
theorem test_seekdown :
    let t := ran .seekdown (readyWith 0x2 0xD20D [ack 0, .ticks 1000, ack 0x009B0000, ack 0])
    sent t = [W 0x02 0xD10D, S, W 0x02 0xD00D] ∧ t.regs.d.frequency = 10250 := by decide

/-! ### Reset, status, termination (V-R) -/

set_option maxRecDepth 4000 in
/-- V-R1. -/
theorem test_softreset :
    let t := ran .softreset (ready [ack 0, .ticks 2000, ack 0])
    sent t = [W 0x02 0xD00F, W 0x02 0xD00D] ∧ waited t = [2000] ∧ t.regs = p1Regs ∧ okWith t 0 := by decide

/-- 1999 strobes do not end the hold time of R200. -/
theorem test_softreset_holds :
    sent (ran .softreset (ready [ack 0, .ticks 1999, ack 0])) = [W 0x02 0xD00F] := by decide

/-- V-R14. -/
theorem test_getrssi :
    let t := ran .getrssi (ready [ack 0x0000B100])
    okWith t 44 ∧ t.regs.x[Config.RB] = 0xB100 ∧ sent t = [⟨.readIdx, 0x0B, 0⟩] := by decide

/-- V-R10, V-R11, V-R12. -/
theorem test_rssi_values : rssiOf 0xFFFF = 63 ∧ rssiOf 0x03FF = 0 ∧ rssiOf 0x0400 = 1 := by decide

/-- V-R20. -/
theorem test_getradioinfo :
    let t := ran .getradioinfo (readyWith 0x2 0xF20D [ack 0x8087A900])
    okWith t 0x0000072A ∧ t.regs.d.rds = true ∧ t.regs.d.rssi = 42 ∧ t.regs.d.tuned = true ∧ t.regs.d.mono = true := by
  decide

/-- V-R23: `d.frequency` is not changed. -/
theorem test_getradioinfo_partial :
    let t := ran .getradioinfo (ready [ack 0x009B0100])
    okWith t 0x00000200 ∧ t.regs.d.frequency = 10250 := by decide

set_option maxRecDepth 4000 in
/-- V-R33 up to R4: the bulk write of TERM. -/
theorem test_term :
    let t := ran .term (ready [ack 0, ack 0, ack 0, ack 0, ack 0, ack 0, ack 0])
    sent t = [W 0x05 0x84D0, W 0x02 0x0000, W 0x03 0x26D0, W 0x04 0x0000, W 0x05 0x84D0, W 0x06 0x0000, W 0x07 0x0000] ∧
    t.regs.life = .terminated ∧ t.regs.d.bassBoost = true := by decide

/-- V-R32: transaction 2 of TERM is not acknowledged. -/
theorem test_term_nack :
    let t := ran .term (ready [ack 0, nak 1])
    t.rsp = some ⟨0x01, 0, [], 2, 0x02, 1⟩ ∧ t.regs.x[Config.CTRL] = 0 ∧ t.regs.life = .ready := by decide

/-! ### Ports, assembler, host surface -/

/-- R47: the outputs are observed while idle and not while busy. -/
theorem test_observation :
    (ready []).observation = some ⟨10250, 3, true, false, false, false, true, true, 1, 0, 1⟩ ∧
    (busy []).observation = none := by decide

/-- R65: 0xC003 goes out as 0xC0, 0x03. -/
theorem test_wire_bytes : (W 0x02 0xC003).wireBytes = [0xC0, 0x03] := by decide

set_option maxRecDepth 4000 in
/-- The examples of R99, an alias and a missing operand. -/
theorem test_assemble :
    assemble "INIT 10250, 3" = some 0x010000280A00000003 ∧
    assemble "SETFREQ 99999" = some 0x100001869F00000000 ∧
    assemble "SETMONO on" = some 0x210000000100000000 ∧
    assemble "SETVOLUME -5" = some 0x24FFFFFFFB00000000 ∧
    assemble "setFreq 0x270A ; a comment" = some 0x100000270A00000000 ∧
    assemble "SETBAND" = some 0x300000000000000000 ∧ assemble "TERM 0" = none := by decide

/-- R112: the toggles read the outputs, and the open parameters go into the commands as they are given. -/
theorem test_surface (c : List Instr) (t : Outputs → List Response → List Byte) :
    let p : HostParams := ⟨⟨[8700, 10050], fun i => i + 1, fun i => i - 1⟩, fun _ => some 9990, ⟨c, t⟩⟩
    let v : HostView := ⟨(ready []).outputs, 0, []⟩
    surfaceCommands p v .volumeUp = [.setvolume 4] ∧ surfaceCommands p v .bass = [.setbass false] ∧
    surfaceCommands p v .mono = [.setmono true] ∧ surfaceCommands p v .nextPreset = [.setfreq 10050] ∧
    surfaceCommands p { v with preset := 1 } .nextPreset = [] ∧ surfaceCommands p v .tune = [.setfreq 9990] ∧
    surfaceCommands p v .info = .getradioinfo :: c ∧ surfaceCommands p v .quit = [] :=
  ⟨rfl, rfl, rfl, rfl, rfl, rfl, rfl, rfl⟩

/-! ### Witnesses: states and operands that meet the hypotheses of each obligation -/

/-- The bounds of the int operands are well-formed. -/
theorem witness_DecodeEncodeRoundTrip :
    (Instr.init 2147483647 (-2147483648)).wellFormed = true ∧ (Instr.setfreq (-2147483648)).wellFormed = true ∧
    (Instr.setvolume 2147483647).wellFormed = true ∧ Instr.term.wellFormed = true := by decide

theorem witness_DecodedWordIsTheEncoding : decode 0x0180000000FFFFFFF9 = .command (.init (-2147483648) (-7)) := by decide

/-- The first and the last value of each reserved range, and a state that holds such a word. -/
theorem witness_ReservedOpcodeIsReported :
    (decode 0x000000000000000000 = .reject .illegalOpcode ∧
    decode 0x030000000000000000 = .reject .illegalOpcode ∧
    decode 0x0F0000000000000000 = .reject .illegalOpcode ∧
    decode 0x130000000000000000 = .reject .illegalOpcode ∧
    decode 0x1F0000000000000000 = .reject .illegalOpcode ∧
    decode 0x250000000000000000 = .reject .illegalOpcode ∧
    decode 0x2F0000000000000000 = .reject .illegalOpcode ∧
    decode 0x330000000000000000 = .reject .illegalOpcode ∧
    decode 0x3F0000000000000000 = .reject .illegalOpcode ∧
    decode 0x430000000000000000 = .reject .illegalOpcode ∧
    decode 0xFFFFFFFFFFFFFFFFFF = .reject .illegalOpcode) ∧
    let s : State := { State.reset with cmds := [0xFFFFFFFFFFFFFFFFFF] }
    s.seq.op = none ∧ s.rsp = none ∧ s.tx = none ∧ s.cmds = 0xFFFFFFFFFFFFFFFFFF :: [] :=
  ⟨by decide, rfl, rfl, rfl, rfl⟩

/-- A word for each clause at its boundary, and a state that holds such a word. -/
theorem witness_IllegalOperandIsReported :
    (decode 0x020000000100000000 = .reject .illegalOperand ∧
    decode 0x420000000000000001 = .reject .illegalOperand ∧
    decode 0x100000000000000001 = .reject .illegalOperand ∧
    decode 0x240000000080000000 = .reject .illegalOperand ∧
    decode 0x200000000200000000 = .reject .illegalOperand ∧
    decode 0x23FFFFFFFF00000000 = .reject .illegalOperand ∧
    decode 0x300000000100000001 = .reject .illegalOperand) ∧
    let s : State := { State.reset with cmds := [0x200000000200000000] }
    s.seq.op = none ∧ s.rsp = none ∧ s.tx = none ∧ s.cmds = 0x200000000200000000 :: [] :=
  ⟨by decide, rfl, rfl, rfl, rfl⟩

theorem witness_StepRunsThePresentedCommand :
    let s : State := { ready [] with cmds := [0x120000000000000000] }
    s.seq.op = none ∧ s.rsp = none ∧ s.cmds = 0x120000000000000000 :: [] ∧
    decode 0x120000000000000000 = .command .formatfreq := by decide

/-- A busy state, and one with a pending response. -/
theorem witness_PresentedCommandsWait :
    let s := busy [.cmd 0, .take]
    let u : State := { ready [.cmd 0] with rsp := some ⟨0, 0, [], 0, 0, 0⟩ }
    (s.seq.op ≠ none ∧ step s = .next (landed (step s))) ∧ (u.rsp ≠ none ∧ step u = .next (landed (step u))) :=
  ⟨⟨by decide, rfl⟩, by decide, rfl⟩

/-- A command that is still running when its inputs are used up, and one that ends. -/
theorem witness_InputsMayArriveLater :
    let t := landed (step (busy [.take]))
    let u := landed (step (busy [ack 0, .take]))
    (step (busy [.take]) = .next t ∧ t.seq.op ≠ none) ∧ (step (busy [ack 0, .take]) = .next u ∧ u.seq.op = none) :=
  ⟨⟨rfl, by decide⟩, rfl, by decide⟩

theorem witness_UnansweredTransactionIsHeld :
    let s := busy [Input.ticks 5, .cmd 0, .take]
    s.seq.op ≠ none ∧ s.tx = some (W 0x02 0xD00D) ∧ s.rsp = none ∧
    (∀ e ∈ s.inputs, e.isTx = false ∧ e.isRst = false) := by decide

/-- The last strobe before the Wait counts out is the boundary. -/
theorem witness_WaitOnlyCountsStrobes :
    let s := waiting [Input.ticks 40, .cmd 0, Input.ticks 9]
    s.seq.op = some .setfreq ∧ s.tx = none ∧ s.rsp = none ∧
    (∀ e ∈ s.inputs, e.isTx = false ∧ e.isRst = false) ∧ s.seq.timer + strobes s.inputs = 199 ∧
    (bodyOf .setfreq s.seq.argA s.seq.argB)[s.seq.pos]? = some (.wait 200) :=
  ⟨rfl, rfl, rfl, by decide, rfl, rfl⟩

/-- An outside that answers and strobes in every step is fair in every run. -/
theorem witness_FairRunsEndTheCommand :
    SequencerLegal (busy []) ∧ (busy []).seq.op ≠ none ∧ Fair (fun _ => [ack 0, Input.ticks 1]) (busy []) := by
  refine ⟨⟨rfl, rfl⟩, by decide, fun n _ => ⟨0, rfl⟩, fun n bound _ => ⟨bound, Nat.le_of_eq ?_⟩⟩
  induction bound with
  | zero => rfl
  | succ k ih => rw [strobesFrom, ← ih]; rfl

theorem witness_UnansweredRunsStayBusy :
    (busy [.take]).seq.op ≠ none ∧ (busy [.take]).tx = some (W 0x02 0xD00D) ∧
    (∀ e ∈ (busy [.take]).inputs, e.isTx = false ∧ e.isRst = false) ∧
    (∀ n : Nat, ∀ e ∈ (fun _ => [Input.ticks 1, .cmd 0] : Nat → List Input) n, e.isTx = false ∧ e.isRst = false) :=
  ⟨by decide, rfl, by decide, fun _ =>
    (by decide : ∀ e ∈ [Input.ticks 1, .cmd 0], e.isTx = false ∧ e.isRst = false)⟩

/-- Each of the three cases of the hypothesis. -/
theorem witness_ResetAbortsTheCommand :
    (busy [.rst]).seq.op ≠ none ∧ (busy [.rst]).inputs = .rst :: [] ∧
    ({ ready [.rst] with rsp := some ⟨0, 0, [], 0, 0, 0⟩ } : State).rsp ≠ none ∧
    (ready [.rst]).cmds = [] ∧ (ready [.rst]).inputs = .rst :: [] := by decide

/-- A state with a pending response, for each clause. -/
theorem witness_ResponseStaysUntilTaken :
    let s (es : List Input) : State := { ready es with rsp := some ⟨0, 0, [], 0, 0, 0⟩ }
    ∀ es ∈ ([[.take], [.cmd 0], [Input.ticks 0], []] : List (List Input)),
      (s es).seq.op = none ∧ (s es).rsp = some ⟨0, 0, [], 0, 0, 0⟩ ∧ (s es).inputs = es := by decide

set_option maxRecDepth 4000 in
/-- A state for each clause: UNINIT, TERMINATED, an INIT that answers, and failing commands. -/
theorem witness_LifecycleErrors :
    (State.reset.seq.op = none ∧ State.reset.tx = none ∧ State.reset.regs.life = .uninit) ∧
    (let s : State := { State.reset with regs := p1Regs.setLife .terminated }
     s.seq.op = none ∧ s.tx = none ∧ s.regs.life = .terminated) ∧
    (let s := ready [nak 1]
     s.rsp = none ∧ exec (.init 0 0) s = .next (ran (.init 0 0) s) ∧
     (ran (.init 0 0) s).rsp = some ⟨0x01, 0, [], 1, 0x02, 1⟩) ∧
    (let s := ready [nak 3]
     s.rsp = none ∧ exec .term s = .next (ran .term s) ∧ (ran .term s).rsp = some ⟨0x03, 0, [], 1, 0x05, 3⟩) :=
  ⟨⟨rfl, rfl, rfl⟩, ⟨rfl, rfl, rfl⟩, ⟨rfl, rfl, by decide⟩, rfl, rfl, by decide⟩

/-- The three kinds of failure. -/
theorem witness_FailedTransactionAbortsTheCommand :
    ∀ err ∈ ([1, 2, 3] : List (BitVec 2)),
      (busy [nak err]).seq.op = some .setbass ∧ (busy [nak err]).tx = some (W 0x02 0xD00D) ∧
      (busy [nak err]).inputs = Input.tx false err 0 :: [] ∧ err ≠ 0 := by decide

theorem witness_OneResponsePerCommand :
    let s := ready [ack 0]
    s.seq.op = none ∧ s.rsp = none ∧ (∀ e ∈ s.inputs, e.isRst = false) ∧
    exec (.setbass true) s = .next (ran (.setbass true) s) :=
  ⟨rfl, rfl, by decide, rfl⟩

/-- One answer that succeeds: TogglesWriteOneBit, SetvolumeClampsAndWrites, SetbandReplacesChan,
  GetfreqRefreshesAndReturns,
GetrssiCachesAndReturns, GetradioinfoRefreshesFourFields, TermWithoutFlushWritesOnlyVol,
  FormatfreqRendersTheCachedFrequency. -/
theorem witness_one_answer :
    (ready [ack 0xFFFFFFFF]).regs.life = .ready ∧
      (ready [ack 0xFFFFFFFF]).inputs = Input.tx true 0 0xFFFFFFFF :: [] := by decide

/-- One answer that fails: FailedSetbassIsNotRolledBack, and the second clauses of GetfreqRefreshesAndReturns,
GetrssiCachesAndReturns and GetradioinfoRefreshesFourFields. -/
theorem witness_one_failure :
    (ready [nak 1]).regs.life = .ready ∧ (ready [nak 1]).inputs = Input.tx false 1 0 :: [] ∧
      (1 : BitVec 2) ≠ 0 := by decide

/-- A frequency at each end of the range whose channel the chip reports, and one between two channels. -/
theorem witness_FrequencyRoundTrip :
    ∀ p ∈ ([(8700, 0xFC00), (10800, 0x00D2), (10255, 0x009B)] : List (Int × Word)),
      8700 ≤ p.1 ∧ p.1 ≤ 10800 ∧ (p.2 &&& 0x03FF).toNat = channelOf (clampFreq p.1) := by decide

/-- The values where the clauses meet and the last one. -/
theorem witness_RenderInsertsThePoint : 65535 < 65536 ∧ 100 ≤ 100 ∧ 99 < 100 := by decide

/-- Strobes in two pieces that reach each bound exactly. -/
theorem witness_SetfreqTunesAndReadsBack :
    let s := ready [ack 0, ack 0, Input.ticks 199, Input.ticks 1, ack 0, Input.ticks 299, Input.ticks 1, ack 0x00D3B100]
    s.regs.life = .ready ∧ [199].sum < 200 ∧ 200 ≤ [199].sum + 1 ∧ [299].sum < 300 ∧ 300 ≤ [299].sum + 1 ∧
    s.inputs = [Input.tx true 0 0, Input.tx true 0 0] ++ [199].map Input.ticks ++
      [Input.ticks 1, Input.tx true 0 0] ++ [299].map Input.ticks ++
      [Input.ticks 1, Input.tx true 0 0x00D3B100] ++ [] :=
  ⟨rfl, by decide, by decide, by decide, by decide, rfl⟩

/-- A failure at each of the four transactions, with the shortest Waits. -/
theorem witness_FailedSetfreqKeepsCompletedSteps :
    (ready [nak 1]).inputs = Input.tx false 1 0 :: [] ∧
    (ready [ack 0, nak 2]).inputs = [Input.tx true 0 0, Input.tx false 2 0] ++ [] ∧
    (200 ≤ 200 ∧ (ready [ack 0, ack 0, Input.ticks 200, nak 3]).inputs =
      [Input.tx true 0 0, Input.tx true 0 0, Input.ticks 200, Input.tx false 3 0] ++ []) ∧
    (300 ≤ 300 ∧ (ready [ack 0, ack 0, Input.ticks 200, ack 0, Input.ticks 300, nak 1]).inputs =
      [Input.tx true 0 0, Input.tx true 0 0, Input.ticks 200, Input.tx true 0 0, Input.ticks 300,
        Input.tx false 1 0] ++ []) ∧
    (ready []).regs.life = .ready :=
  ⟨rfl, rfl, ⟨by decide, rfl⟩, ⟨by decide, rfl⟩, rfl⟩

theorem witness_SeekRunsItsWindow :
    let s := ready [ack 0, Input.ticks 999, Input.ticks 1, ack 0x8087A900, ack 0]
    s.regs.life = .ready ∧ [999].sum < 1000 ∧ 1000 ≤ [999].sum + 1 ∧
    s.inputs = [Input.tx true 0 0] ++ [999].map Input.ticks ++
      [Input.ticks 1, Input.tx true 0 0x8087A900, Input.tx true 0 0] ++ [] :=
  ⟨rfl, by decide, by decide, rfl⟩

theorem witness_FailedSeekAndTheSeekBit :
    (ready [ack 0, Input.ticks 1000, nak 3]).inputs = [Input.tx true 0 0, Input.ticks 1000, Input.tx false 3 0] ++ [] ∧
    (ready [ack 0, Input.ticks 1000, ack 0x00870000, nak 1]).inputs =
      [Input.tx true 0 0, Input.ticks 1000, Input.tx true 0 0x00870000, Input.tx false 1 0] ++ [] ∧
    (ready []).regs.life = .ready ∧ 1000 ≤ 1000 :=
  ⟨rfl, rfl, rfl, by decide⟩

/-- The second write answered and failed. -/
theorem witness_SoftresetHoldsResetThenClearsIt :
    let s (e : Input) := ready [ack 0, Input.ticks 1999, Input.ticks 1, e]
    [1999].sum < 2000 ∧ 2000 ≤ [1999].sum + 1 ∧ (s (ack 0)).regs.life = .ready ∧
    (s (ack 0)).inputs = [Input.tx true 0 0] ++ [1999].map Input.ticks ++ [Input.ticks 1, Input.tx true 0 0] ++ [] ∧
    (s (nak 2)).inputs = [Input.tx true 0 0] ++ [1999].map Input.ticks ++ [Input.ticks 1, Input.tx false 2 0] ++ [] :=
  ⟨by decide, by decide, rfl, rfl, rfl⟩

theorem witness_TermFlushesAndTerminates :
    let s := ready [ack 0, ack 0, ack 0, ack 0, ack 0, ack 0, ack 0]
    s.regs.life = .ready ∧
    s.inputs = [Input.tx true 0 0, Input.tx true 0 0, Input.tx true 0 0, Input.tx true 0 0, Input.tx true 0 0,
      Input.tx true 0 0, Input.tx true 0 0] ++ [] :=
  ⟨rfl, rfl⟩

theorem witness_InitBringsUpTheChip :
    let s : State := { State.reset with
      inputs := [ack 0, ack 0, ack 0, ack 0, ack 0, ack 0, Input.ticks 200, ack 0, Input.ticks 299, Input.ticks 1,
        ack 0x009BA900,
        ack 0] }
    ([] : List Nat).sum < 200 ∧ 200 ≤ ([] : List Nat).sum + 200 ∧ [299].sum < 300 ∧ 300 ≤ [299].sum + 1 ∧
    s.inputs = [Input.tx true 0 0, Input.tx true 0 0, Input.tx true 0 0, Input.tx true 0 0, Input.tx true 0 0,
      Input.tx true 0 0] ++
      ([] : List Nat).map Input.ticks ++ [Input.ticks 200, Input.tx true 0 0] ++ [299].map Input.ticks ++
      [Input.ticks 1, Input.tx true 0 0x009BA900, Input.tx true 0 0] ++ [] :=
  ⟨by decide, by decide, by decide, by decide, rfl⟩

set_option maxRecDepth 4000 in
/-- SOFTRESET completes with exactly its 2000 strobes. -/
theorem witness_CompletionTakesTheWaits :
    let s := ready [ack 0, Input.ticks 2000, ack 0]
    s.seq.op = none ∧ s.rsp = none ∧ exec .softreset s = .next (ran .softreset s) ∧
    (ran .softreset s).rsp = some ⟨0x00, 0, [], 0, 0, 0⟩ :=
  ⟨rfl, rfl, rfl, by decide⟩

/-- The hypotheses of DerivedFieldsHaveTheirWriters and ShadowSlotsHaveTheirWriters. -/
theorem witness_writers :
    let s := ready [ack 0]
    s.seq.op = none ∧ (∀ e ∈ s.inputs, e.isRst = false) ∧ exec (.setvolume 7) s = .next (ran (.setvolume 7) s) ∧
    (Instr.setvolume 7).opcode ≠ .init :=
  ⟨rfl, by decide, rfl, by decide⟩

theorem witness_ObservationRecordOnlyGrows : step (busy [ack 0]) = .next (landed (step (busy [ack 0]))) := rfl

theorem witness_EveryStepKeepsShadowLegal :
    ShadowLegal (busy [ack 0]).regs ∧ step (busy [ack 0]) = .next (landed (step (busy [ack 0]))) :=
  ⟨by unfold ShadowLegal; decide, rfl⟩

theorem witness_EveryStepKeepsPortsLegal :
    PortsLegal (busy [ack 0]) ∧ step (busy [ack 0]) = .next (landed (step (busy [ack 0]))) := by
  refine ⟨⟨by decide, by decide, fun q hq => .inl ⟨0x2, by decide, by decide, ?_⟩⟩, rfl⟩
  cases hq
  rfl

theorem witness_EveryStepKeepsPendingLegal :
    let s : State := { ready [.take] with rsp := some ⟨0x02, 0, [], 6, 0x03, 2⟩ }
    PendingLegal s ∧ step s = .next (landed (step s)) := by
  refine ⟨fun r hr => ?_, rfl⟩
  cases hr
  exact .inr (.inl (by decide))

/-- A command in a transaction and one in a Wait. -/
theorem witness_EveryStepKeepsSequencerLegal :
    SequencerLegal (busy [ack 0]) ∧ SequencerLegal (waiting [Input.ticks 50]) ∧
    step (busy [ack 0]) = .next (landed (step (busy [ack 0]))) :=
  ⟨⟨rfl, rfl⟩, ⟨rfl, rfl, by decide⟩, rfl⟩

theorem witness_EveryStepKeepsReadyLegal :
    ReadyLegal (busy [ack 0]) ∧ step (busy [ack 0]) = .next (landed (step (busy [ack 0]))) :=
  ⟨⟨⟨rfl, rfl⟩, fun _ => ⟨rfl, rfl, rfl, 155, by decide, rfl⟩, fun h => nomatch h⟩, rfl⟩

end Sys2Proof.Tests
end

section
/-! PROOFS. Runs: one induction over the moves of a running command, and one over the moves of RSEQ, for every statement
of the form "every step keeps P". -/

namespace Sys2Proof.Machine

open Sys2Proof

/-! ### Which command runs -/

/-- The command with this opcode and these operands runs. -/
def State.Runs (s : State) (op : Opcode) (a b : Int) : Prop :=
  s.seq.op = some op ∧ s.seq.argA = a ∧ s.seq.argB = b

/-- RSEQ is IDLE, or runs this command and no other. -/
def State.IdleOrRuns (s : State) (op : Opcode) (a b : Int) : Prop :=
  s.seq.op = none ∨ s.Runs op a b

/-- An accepted command runs. -/
theorem State.accept_runs (s : State) (op : Opcode) (a b : Int) : (s.accept op a b).Runs op a b :=
  ⟨rfl, rfl, rfl⟩

/-- Micro-steps go on with the same command or end it. -/
theorem runFrom_idleOrRuns (ms : List Micro) (s : State) (op : Opcode) (a b : Int) (h : s.Runs op a b) :
    (runFrom ms s).IdleOrRuns op a b :=
  runFrom_keeps (fun t => t.IdleOrRuns op a b) (fun _ _ ht => ht) (fun _ _ ht => ht) (fun _ _ _ => .inl rfl) ms
    (fun _ _ _ ht => ht) s (.inr h)

/-- An input goes on with the same command or ends it. -/
theorem onInput_idleOrRuns (body : List Micro) (e : Input) (s : State) (op : Opcode) (a b : Int) (h : s.Runs op a b) :
    (onInput body e s).IdleOrRuns op a b := by
  cases e with
  | rst => exact .inl rfl
  | cmd w => exact .inr h
  | take => exact .inr h
  | ticks count =>
    rcases onTicks_cases body count s with heq | ⟨n, rest, _, _, _, heq⟩ | ⟨n, rest, _, _, _, heq⟩ <;>
      rw [onInput, heq]
    · exact .inr h
    · exact .inr h
    · exact runFrom_idleOrRuns rest _ op a b h
  | tx ok err rdata =>
    rcases onAnswer_cases body ok err rdata s with
        ⟨_, heq⟩ | ⟨q, _, _, heq⟩ | ⟨q, _, _, _, heq⟩ | ⟨q, m, rest, _, _, _, heq⟩ <;> rw [onInput, heq]
    · exact .inr h
    · exact .inl rfl
    · exact .inr h
    · exact runFrom_idleOrRuns rest _ op a b h

/-! ### The moves of a running command -/

/-- What every input keeps of a running command, the whole run keeps, whichever inputs `A` allows there are. -/
theorem drive_keeps_of_mem (body : List Micro) (P : State → Prop) (A : Input → Prop)
    (hin : ∀ s es, P s → P { s with inputs := es })
    (hstep : ∀ e s op, A e → s.seq.op = some op → P s → P (onInput body e s))
    (es : List Input) (hes : ∀ e ∈ es, A e) (s : State) (h : P s) : P (drive body es s) := by
  induction es generalizing s with
  | nil => exact hin s [] h
  | cons e es ih =>
    obtain ⟨he, hes⟩ := List.forall_mem_cons.mp hes
    cases hop : s.seq.op with
    | none => rw [drive_idle body _ s hop]; exact hin s _ h
    | some op => rw [drive_busy body e es s op hop]; exact ih hes _ (hstep e s op he hop h)

/-- Each move of the command with this opcode and these operands keeps P, a reset aside: the host presents a word or
asserts `rsp_ready`, strobes count on in a Wait or end it, and the transport answers. -/
structure KeptWhileRunning (op : Opcode) (a b : Int) (P : State → Prop) : Prop where
  inputs : ∀ s es, P s → P { s with inputs := es }
  cmds : ∀ s ws, P s → P { s with cmds := ws }
  take : ∀ s, s.Runs op a b → P s → P s.takeResponse
  counts : ∀ s n rest count, s.Runs op a b → s.tx = none → (bodyOf op a b).drop s.seq.pos = .wait n :: rest →
    s.seq.timer + count < n → P s → P { s with seq := { s.seq with timer := s.seq.timer + count } }
  waitEnds : ∀ s n rest count, s.Runs op a b → s.tx = none → (bodyOf op a b).drop s.seq.pos = .wait n :: rest → P s →
    P (runFrom rest { s with seq := { s.seq with timer := s.seq.timer + count, pos := s.seq.pos + 1 } })
  fails : ∀ s q err rdata, s.Runs op a b → s.tx = some q → P s →
    P ((s.observe (.answer false err rdata)).raise (.transport (TxError.ofBits err) q))
  answeredAtEnd : ∀ s q err rdata, s.Runs op a b → s.tx = some q → (bodyOf op a b).drop s.seq.pos = [] → P s →
    P (s.observe (.answer true err rdata))
  answers : ∀ s q m rest err rdata, s.Runs op a b → s.tx = some q → (bodyOf op a b).drop s.seq.pos = m :: rest →
    P s → P (runFrom rest ((s.observe (.answer true err rdata)).answered m rdata))

namespace KeptWhileRunning

variable {op : Opcode} {a b : Int} {P : State → Prop}

/-- One input of the running command keeps P, if a reset does. -/
theorem onInput (hP : KeptWhileRunning op a b P) (e : Input) (s : State) (hrst : e.isRst = true → P s.hardReset)
    (hrun : s.Runs op a b) (h : P s) : P (onInput (bodyOf op a b) e s) := by
  cases e with
  | rst => exact hrst rfl
  | cmd w => exact hP.cmds s _ h
  | take => exact hP.take s hrun h
  | ticks count =>
    rcases onTicks_cases (bodyOf op a b) count s with
        heq | ⟨n, rest, htx, hdrop, hlt, heq⟩ | ⟨n, rest, htx, hdrop, _, heq⟩ <;> rw [Machine.onInput, heq]
    · exact h
    · exact hP.counts s n rest count hrun htx hdrop hlt h
    · exact hP.waitEnds s n rest count hrun htx hdrop h
  | tx ok err rdata =>
    rcases onAnswer_cases (bodyOf op a b) ok err rdata s with
        ⟨_, heq⟩ | ⟨q, htx, rfl, heq⟩ | ⟨q, htx, rfl, hdrop, heq⟩ | ⟨q, m, rest, htx, rfl, hdrop, heq⟩ <;>
      rw [Machine.onInput, heq]
    · exact h
    · exact hP.fails s q err rdata hrun htx h
    · exact hP.answeredAtEnd s q err rdata hrun htx hdrop h
    · exact hP.answers s q m rest err rdata hrun htx hdrop h

/-- The run of the command on its inputs keeps P, if the resets among them do. -/
theorem drive (hP : KeptWhileRunning op a b P) (es : List Input)
    (hrst : ∀ e ∈ es, e.isRst = true → ∀ s : State, P s.hardReset) (s : State) (hrun : s.IdleOrRuns op a b) (h : P s) :
    P (drive (bodyOf op a b) es s) := by
  refine (drive_keeps_of_mem (bodyOf op a b) (fun s => s.IdleOrRuns op a b ∧ P s)
    (fun e => e.isRst = true → ∀ s : State, P s.hardReset) (fun s es ⟨hr, h⟩ => ⟨hr, hP.inputs s es h⟩) ?_
    es hrst s ⟨hrun, h⟩).2
  rintro e s op' he hop ⟨hidle | hruns, h⟩
  · exact absurd (hidle.symm.trans hop) (by simp)
  · exact ⟨onInput_idleOrRuns _ e s op a b hruns, hP.onInput e s (fun hr => he hr s) hruns h⟩

end KeptWhileRunning

/-! ### The moves of RSEQ -/

/-- Each move of RSEQ keeps P: the moves of every running command, a reset, the taking of the response, an error that
refuses the presented word, and the acceptance of a command. -/
structure KeptByEveryMove (P : State → Prop) : Prop where
  running : ∀ op a b, KeptWhileRunning op a b P
  reset : ∀ s : State, P s.hardReset
  take : ∀ s : State, P s → P s.takeResponse
  refuse : ∀ (s : State) (c : Cause), s.seq.op = none → P s → P (s.raise c)
  accept : ∀ (s : State) (op : Opcode) (a b : Int), s.seq.op = none → s.rsp = none → P s →
    P (runFrom (bodyOf op a b) (s.accept op a b))

/-- What the execution of a command can do: take its lifecycle error, or run its body (R237). -/
theorem exec_cases (i : Instr) (s : State) :
    (∃ c, exec i s = .next (s.raise c)) ∨
    exec i s = .next (drive (bodyOf i.opcode (commandArgs i).1 (commandArgs i).2) s.inputs
      (runFrom (bodyOf i.opcode (commandArgs i).1 (commandArgs i).2)
        (s.accept i.opcode (commandArgs i).1 (commandArgs i).2))) := by
  rw [exec_eq_command]
  exact (command_cases _ _ _ _ s).imp (fun ⟨c, _, heq⟩ => ⟨c, heq⟩) (fun ⟨_, heq⟩ => heq)

/-- A word is accepted only by an IDLE RSEQ with no response pending (R46). -/
theorem ready_of_fetch {s : State} {w : Command} (h : fetch s = some w) : s.seq.op = none ∧ s.rsp = none := by
  obtain ⟨hr, _⟩ := Option.ite_none_right_eq_some.mp h
  simpa [State.cmdReady] using hr

namespace KeptByEveryMove

variable {P : State → Prop}

/-- A command from its acceptance on keeps P. -/
theorem exec (hP : KeptByEveryMove P) (i : Instr) (s t : State) (hop : s.seq.op = none) (hrsp : s.rsp = none) (h : P s)
    (hexec : exec i s = .next t) : P t := by
  rcases exec_cases i s with ⟨c, heq⟩ | heq <;> cases heq.symm.trans hexec
  · exact hP.refuse s c hop h
  · exact (hP.running _ _ _).drive _ (fun _ _ _ => hP.reset) _
      (runFrom_idleOrRuns _ _ _ _ _ (s.accept_runs _ _ _)) (hP.accept s _ _ _ hop hrsp h)

/-- A step of an RSEQ that has nothing to run keeps P. -/
theorem idleStep (hP : KeptByEveryMove P) (s : State) (h : P s) : P (idleStep s) := by
  have hK := hP.running .init 0 0
  unfold Machine.idleStep
  split
  · exact h
  · next e es _ =>
    cases e with
    | rst => exact hP.reset _
    | cmd w => exact hK.cmds _ _ (hK.inputs s es h)
    | take => exact hP.take _ (hK.inputs s es h)
    | ticks n => exact hK.inputs s es h
    | tx ok err rdata => exact hK.inputs s es h

/-- What every move keeps, every step keeps. -/
theorem step (hP : KeptByEveryMove P) (s t : State) (h : P s) (hstep : step s = .next t) : P t := by
  have hdrop : P s.dropFetched := (hP.running .init 0 0).cmds s _ h
  rcases step_cases s with ⟨op, hop, heq⟩ | ⟨w, i, hf, _, heq⟩ | ⟨w, r, hf, _, heq⟩ | ⟨_, _, heq⟩ <;>
    rw [heq] at hstep
  · cases hstep
    exact (hP.running op _ _).drive _ (fun _ _ _ => hP.reset) s (.inr ⟨hop, rfl, rfl⟩) h
  · exact hP.exec i s.dropFetched t (ready_of_fetch hf).1 (ready_of_fetch hf).2 hdrop hstep
  · cases hstep
    exact hP.refuse s.dropFetched _ (ready_of_fetch hf).1 hdrop
  · cases hstep
    exact hP.idleStep s h

end KeptByEveryMove

end Sys2Proof.Machine
end

section
/-! PROOFS. Bodies: the expanded body of each command as one list, and what all of them have in common. -/

namespace Sys2Proof.Machine

open Sys2Proof

/-! ### The expanded bodies (R120 to R122, R140 to R146, R160 to R164, R180 to R182, R200 to R203) -/

section
variable (a b : Int)

@[simp] theorem bodyOf_init : bodyOf .init a b =
    [.update resetState,
     .update fun r => r.setSlot Config.CHIPID Config.chipidValue,
     .update fun r =>
       r.setSlot Config.CTRL (Config.BIT_RESET ||| Config.BIT_ENABLE ||| Config.BIT_UNMUTE ||| Config.BIT_OUTPUT),
     .writeReg Config.CTRL,
     .update fun r => r.setSlot Config.VOL Config.volDefault,
     .writeReg Config.VOL,
     .update fun r =>
       r.setSlot Config.CTRL
         (Config.BIT_ENABLE ||| Config.BIT_NEW ||| Config.BIT_RDS ||| Config.BIT_UNMUTE ||| Config.BIT_OUTPUT),
     .writeReg Config.CTRL,
     .update (Regs.setBassBoost true),
     .update fun r => r.toggleBits Config.CTRL Config.BIT_BASS true,
     .writeReg Config.CTRL,
     .update (Regs.setRds true),
     .update (Regs.setMute false),
     .update fun r =>
       r.setBits Config.CTRL (Config.BIT_OUTPUT ||| Config.BIT_UNMUTE ||| Config.BIT_RDS ||| Config.BIT_ENABLE),
     .writeReg Config.CTRL,
     .update fun r => r.setSlot Config.CHAN (tuneValue a),
     .writeReg Config.CHAN,
     .wait 200,
     .writeReg Config.VOL,
     .wait 300,
     .readSeq,
     .update Regs.readbackFrequency,
     .update (Regs.setVolume (clampVolume b)),
     .update (Regs.setVolField (clampVolume b)),
     .writeReg Config.VOL,
     .update (Regs.setTuned true),
     .update (Regs.setLife .ready),
     .respond Regs.noResult] := rfl

@[simp] theorem bodyOf_term : bodyOf .term a b =
    [.update (Regs.setVolume (clampVolume 0)),
     .update (Regs.setVolField (clampVolume 0)),
     .writeReg Config.VOL,
     .update fun r => r.setSlot Config.CTRL 0x0000,
     .writeReg 0x2, .writeReg 0x3, .writeReg 0x4, .writeReg 0x5, .writeReg 0x6, .writeReg 0x7,
     .update (Regs.setLife .terminated),
     .respond Regs.noResult] := rfl

@[simp] theorem bodyOf_setfreq : bodyOf .setfreq a b =
    [.update fun r =>
       r.setBits Config.CTRL (Config.BIT_OUTPUT ||| Config.BIT_UNMUTE ||| Config.BIT_RDS ||| Config.BIT_ENABLE),
     .writeReg Config.CTRL,
     .update fun r => r.setSlot Config.CHAN (tuneValue a),
     .writeReg Config.CHAN,
     .wait 200,
     .writeReg Config.VOL,
     .wait 300,
     .readSeq,
     .update Regs.readbackFrequency,
     .respond Regs.noResult] := rfl

@[simp] theorem bodyOf_getfreq : bodyOf .getfreq a b =
    [.readSeq, .update Regs.readbackFrequency, .respond Regs.frequencyResult] := rfl

@[simp] theorem bodyOf_formatfreq : bodyOf .formatfreq a b = [.respond Regs.textResult] := rfl

@[simp] theorem bodyOf_setbass : bodyOf .setbass a b =
    [.update (Regs.setBassBoost (argBool a)),
     .update fun r => r.toggleBits Config.CTRL Config.BIT_BASS (argBool a),
     .writeReg Config.CTRL,
     .respond Regs.noResult] := rfl

@[simp] theorem bodyOf_setmono : bodyOf .setmono a b =
    [.update (Regs.setMono (argBool a)),
     .update fun r => r.clearBits Config.CTRL Config.BIT_SEEK,
     .update fun r => r.toggleBits Config.CTRL Config.BIT_MONO (argBool a),
     .writeReg Config.CTRL,
     .respond Regs.noResult] := rfl

@[simp] theorem bodyOf_setmute : bodyOf .setmute a b =
    [.update (Regs.setMute (argBool a)),
     .update fun r => r.toggleBits Config.CTRL Config.BIT_UNMUTE (!argBool a),
     .writeReg Config.CTRL,
     .respond Regs.noResult] := rfl

@[simp] theorem bodyOf_setsoftmute : bodyOf .setsoftmute a b =
    [.update (Regs.setSoftMute (argBool a)),
     .update fun r => r.toggleBits Config.R4 Config.BIT_SOFTMUTE (argBool a),
     .writeReg Config.R4,
     .respond Regs.noResult] := rfl

@[simp] theorem bodyOf_setvolume : bodyOf .setvolume a b =
    [.update (Regs.setVolume (clampVolume a)),
     .update (Regs.setVolField (clampVolume a)),
     .writeReg Config.VOL,
     .respond Regs.noResult] := rfl

@[simp] theorem bodyOf_setband : bodyOf .setband a b =
    [.update (Regs.setBand (argBand a)),
     .update fun r => r.setSlot Config.CHAN (bandValue (argBand a)),
     .writeReg Config.CHAN,
     .respond Regs.noResult] := rfl

@[simp] theorem bodyOf_seekup : bodyOf .seekup a b =
    [.update fun r => r.setBits Config.CTRL Config.BIT_SEEKUP,
     .update fun r => r.setBits Config.CTRL Config.BIT_SEEK,
     .writeReg Config.CTRL,
     .wait 1000,
     .readSeq,
     .update Regs.readbackFrequency,
     .update fun r => r.clearBits Config.CTRL Config.BIT_SEEK,
     .writeReg Config.CTRL,
     .respond Regs.noResult] := rfl

@[simp] theorem bodyOf_seekdown : bodyOf .seekdown a b =
    [.update fun r => r.clearBits Config.CTRL Config.BIT_SEEKUP,
     .update fun r => r.setBits Config.CTRL Config.BIT_SEEK,
     .writeReg Config.CTRL,
     .wait 1000,
     .readSeq,
     .update Regs.readbackFrequency,
     .update fun r => r.clearBits Config.CTRL Config.BIT_SEEK,
     .writeReg Config.CTRL,
     .respond Regs.noResult] := rfl

@[simp] theorem bodyOf_softreset : bodyOf .softreset a b =
    [.update fun r => r.setBits Config.CTRL Config.BIT_RESET,
     .writeReg Config.CTRL,
     .wait 2000,
     .update fun r => r.clearBits Config.CTRL Config.BIT_RESET,
     .writeReg Config.CTRL,
     .respond Regs.noResult] := rfl

@[simp] theorem bodyOf_getrssi : bodyOf .getrssi a b =
    [.readReg Config.RB, .update Regs.readbackRssi, .respond Regs.rssiResult] := rfl

@[simp] theorem bodyOf_getradioinfo : bodyOf .getradioinfo a b =
    [.readSeq,
     .update Regs.readbackRds,
     .update Regs.readbackRssi,
     .update Regs.readbackTuned,
     .update Regs.readbackMono,
     .respond Regs.radioInfoResult] := rfl

end

/-! ### What all bodies have in common -/

/-- A micro-step as the commands use them: writes go to registers 2 to 7, the one indexed read is of RB, and every Wait
takes at least a millisecond (R60 to R63, R280). -/
def Micro.Legal : Micro → Prop
  | .writeReg a => 2 ≤ a.val ∧ a.val ≤ 7
  | .readReg a => a = Config.RB
  | .wait n => 0 < n
  | .respond f => ∀ r, (f r).text.length ≤ 16
  | .readSeq => True
  | .update _ => True

/-- A numeral of at most `fuel` digits goes in front of what follows it. -/
theorem decimalAux_length_le (fuel n : Nat) (acc : List Byte) :
    (decimalAux fuel n acc).length ≤ fuel + acc.length := by
  induction fuel generalizing n acc with
  | zero => simp [decimalAux]
  | succ fuel ih =>
    rw [decimalAux]
    split
    · simp only [List.length_cons]; omega
    · exact (ih _ _).trans (by simp only [List.length_cons]; omega)

/-- The text of a frequency fits the response port (R45, R147). -/
theorem render_length_le (n : Nat) : (render n).length ≤ 16 := by
  have h := decimalAux_length_le 5 (n / 100) []
  simp only [render, decimal, mhzSuffix, List.length_append, List.length_cons, List.length_nil] at h ⊢
  omega

/-- Every micro-step of every command is legal. -/
theorem bodyOf_legal (op : Opcode) (a b : Int) : ∀ m ∈ bodyOf op a b, m.Legal := by
  cases op <;>
    simp [Micro.Legal, Regs.noResult, Regs.frequencyResult, Regs.textResult, Regs.rssiResult, Regs.radioInfoResult,
      render_length_le]

/-- The last micro-step of every command is its response (R45). -/
theorem bodyOf_getLast? (op : Opcode) (a b : Int) : ∃ f, (bodyOf op a b).getLast? = some (.respond f) := by
  cases op <;> exact ⟨_, rfl⟩

/-- No command issues more than nine transactions (R22, R124). -/
theorem transactionCount_bodyOf_le (op : Opcode) (a b : Int) : transactionCount (bodyOf op a b) ≤ 9 := by
  cases op <;> exact Nat.le_of_ble_eq_true rfl

end Sys2Proof.Machine
end

section
/-! PROOFS. Register files: a predicate of the register files that each micro-step keeps, and the legal shadow (R28 to
R35). -/

namespace Sys2Proof.Machine

open Sys2Proof

/-! ### What a micro-step does to the register files -/

/-- Whatever the micro-step writes into the register files keeps Q. -/
def Micro.Keeps (Q : Regs → Prop) : Micro → Prop
  | .update f => ∀ r, Q r → Q (f r)
  | .readReg a => ∀ r v, Q r → Q (r.setSlot a v)
  | .readSeq => ∀ r rdata, Q r → Q (r.storeBurst rdata)
  | .writeReg _ => True
  | .wait _ => True
  | .respond _ => True

@[simp] theorem Micro.keeps_writeReg (Q : Regs → Prop) (a : Slot) : (Micro.writeReg a).Keeps Q := trivial
@[simp] theorem Micro.keeps_wait (Q : Regs → Prop) (n : Nat) : (Micro.wait n).Keeps Q := trivial
@[simp] theorem Micro.keeps_respond (Q : Regs → Prop) (f : Regs → Result) : (Micro.respond f).Keeps Q := trivial

/-- What a successful answer stores keeps Q. -/
theorem Micro.Keeps.store {Q : Regs → Prop} {m : Micro} (hm : m.Keeps Q) (rdata : BitVec 32) (r : Regs) (h : Q r) :
    Q (m.store rdata r) := by
  cases m with
  | readReg a => exact hm r _ h
  | readSeq => exact hm r rdata h
  | _ => exact h

/-- The register files after micro-steps that keep Q. -/
theorem runFrom_keeps_regs (Q : Regs → Prop) (ms : List Micro) (hms : ∀ m ∈ ms, m.Keeps Q) (s : State) (h : Q s.regs) :
    Q (runFrom ms s).regs :=
  runFrom_keeps (fun s => Q s.regs) (fun _ _ h => h) (fun _ _ h => h) (fun _ _ h => h) ms
    (fun _ hf s h => hms _ hf s.regs h) s h

/-- Every micro-step behind the one in progress is one of the body. -/
theorem mem_of_drop_eq_cons {body rest : List Micro} {n : Nat} {m : Micro} (hdrop : body.drop n = m :: rest) :
    ∀ m' ∈ m :: rest, m' ∈ body :=
  fun _ h => List.mem_of_mem_drop (hdrop ▸ h)

/-- An error changes at most `life`. -/
theorem State.raise_regs (s : State) (c : Cause) :
    (s.raise c).regs = { s.regs with life := c.lifeAfter s.seq.op s.regs.life } := rfl

/-- Outside INIT no error changes `life` (R237). -/
theorem Cause.lifeAfter_of_ne_init (c : Cause) (op : Option Opcode) (life : Life) (h : op ≠ some .init) :
    c.lifeAfter op life = life := by
  cases c <;> simp [Cause.lifeAfter, h]

/-- An error outside INIT leaves the register files alone (R235, R237). -/
theorem State.raise_regs_of_ne_init (s : State) (c : Cause) (h : s.seq.op ≠ some .init) :
    (s.raise c).regs = s.regs := by
  rw [State.raise_regs, Cause.lifeAfter_of_ne_init c _ _ h]

/-- A failing transaction of INIT leaves UNINIT (R237). -/
theorem State.raise_transport_regs_of_init (s : State) (kind : TxError) (q : TxReq) (h : s.seq.op = some .init) :
    (s.raise (.transport kind q)).regs = { s.regs with life := .uninit } := by
  simp [State.raise_regs, Cause.lifeAfter, h]

/-- A running command keeps what its micro-steps, and in INIT the failure that sets UNINIT, keep of the register
files. -/
theorem keptWhileRunning_regs (Q : Regs → Prop) (op : Opcode) (a b : Int) (hbody : ∀ m ∈ bodyOf op a b, m.Keeps Q)
    (hfail : op = .init → ∀ r, Q r → Q { r with life := .uninit }) :
    KeptWhileRunning op a b (fun s => Q s.regs) where
  inputs _ _ h := h
  cmds _ _ h := h
  take _ _ h := h
  counts _ _ _ _ _ _ _ _ h := h
  waitEnds _ _ _ _ _ _ hdrop h :=
    runFrom_keeps_regs Q _ (fun m hm => hbody m (mem_of_drop_eq_cons hdrop m (List.mem_cons_of_mem _ hm))) _ h
  fails s q err rdata hrun _ h := by
    by_cases hinit : op = .init
    · rw [State.raise_transport_regs_of_init _ _ _ (hinit ▸ hrun.1)]
      exact hfail hinit _ h
    · rw [State.raise_regs_of_ne_init _ _ (by simpa [hrun.1] using hinit)]
      exact h
  answeredAtEnd _ _ _ _ _ _ _ h := h
  answers s q m rest err rdata _ _ hdrop h := by
    have hmem := mem_of_drop_eq_cons hdrop
    refine runFrom_keeps_regs Q rest (fun m' hm => hbody m' (hmem m' (List.mem_cons_of_mem _ hm))) _ ?_
    exact (hbody m (hmem m List.mem_cons_self)).store rdata s.regs h

/-- Every move keeps what every micro-step, the failure of INIT and a reset keep of the register files. -/
theorem keptByEveryMove_regs (Q : Regs → Prop) (hbody : ∀ op a b, ∀ m ∈ bodyOf op a b, m.Keeps Q)
    (hfail : ∀ r, Q r → Q { r with life := .uninit }) (hreset : Q Regs.reset) :
    KeptByEveryMove (fun s => Q s.regs) where
  running op a b := keptWhileRunning_regs Q op a b (hbody op a b) fun _ => hfail
  reset _ := hreset
  take _ h := h
  refuse s c hop h := by rw [State.raise_regs_of_ne_init s c (by simp [hop])]; exact h
  accept s op a b _ _ h := runFrom_keeps_regs Q _ (hbody op a b) _ h

/-! ### The legal shadow (R28 to R35) -/

/-- Every slot holds 0 after reset (R50). -/
@[simp] theorem Regs.reset_getElem (i : Nat) (hi : i < 16) : Regs.reset.x[i] = 0 := by
  simp [Regs.reset]

/-- What a slot reads after a write, by the slot's number. -/
@[simp] theorem Regs.setSlot_getElem (r : Regs) (a : Slot) (v : Word) (i : Nat) (hi : i < 16) :
    (r.setSlot a v).x[i] = if a.val = i then v else r.x[i] := by
  simp [Regs.setSlot, Vector.getElem_set]

theorem shadowLegal_reset : ShadowLegal Regs.reset := by
  simp [ShadowLegal]

namespace ShadowLegal

variable {r : Regs}

/-- Derived fields and `life` have no part in it. -/
theorem of_x_eq {r' : Regs} (hx : r'.x = r.x) (h : ShadowLegal r) : ShadowLegal r' := by
  simpa only [ShadowLegal, hx] using h

/-- A write of CTRL that leaves the unnamed bits 0 (R28). -/
theorem setCtrl (h : ShadowLegal r) {v : Word} (hv : v &&& Config.CTRL_UNNAMED = 0) :
    ShadowLegal (r.setSlot Config.CTRL v) := by
  obtain ⟨_, hrest⟩ := h
  exact ⟨by simpa using hv, by simpa using hrest⟩

/-- A write of CHAN that leaves the unnamed bits and SPACE 0 (R29). -/
theorem setChan (h : ShadowLegal r) {v : Word} (hv : v &&& 0x0023#16 = 0#16) :
    ShadowLegal (r.setSlot Config.CHAN v) := by
  obtain ⟨hctrl, _, hrest⟩ := h
  exact ⟨by simpa using hctrl, by simpa using hv, by simpa using hrest⟩

/-- A write of R4 with one of its two values (R31). -/
theorem setR4 (h : ShadowLegal r) {v : Word} (hv : v = 0x0000 ∨ v = 0x0200) : ShadowLegal (r.setSlot Config.R4 v) := by
  obtain ⟨hctrl, hchan, _, hrest⟩ := h
  exact ⟨by simpa using hctrl, by simpa using hchan, by simpa using hv,
    by simpa using hrest⟩

/-- CHIPID, VOL, RA and RB may hold any value. -/
theorem setFree (h : ShadowLegal r) {a : Slot} (v : Word) (ha : a ∈ [Config.CHIPID, Config.VOL, Config.RA, Config.RB]) :
    ShadowLegal (r.setSlot a v) := by
  simp only [List.mem_cons, List.not_mem_nil, or_false] at ha
  rcases ha with rfl | rfl | rfl | rfl <;> simpa [ShadowLegal] using h

end ShadowLegal

/-! ### The micro-steps that keep the shadow legal -/

section

/-- An update of derived fields or `life`. -/
theorem keeps_shadowLegal_of_x {f : Regs → Regs} (hf : ∀ r, (f r).x = r.x) : (Micro.update f).Keeps ShadowLegal :=
  fun r h => h.of_x_eq (hf r)

theorem keeps_shadowLegal_resetState : (Micro.update resetState).Keeps ShadowLegal :=
  fun _ _ => shadowLegal_reset

theorem keeps_shadowLegal_setCtrl {v : Word} (hv : v &&& Config.CTRL_UNNAMED = 0) :
    (Micro.update fun r => r.setSlot Config.CTRL v).Keeps ShadowLegal :=
  fun _ h => h.setCtrl hv

theorem keeps_shadowLegal_setBits {m : Word} (hm : m &&& Config.CTRL_UNNAMED = 0) :
    (Micro.update fun r => r.setBits Config.CTRL m).Keeps ShadowLegal := fun r h =>
  h.setCtrl <| calc
    (r.x[Config.CTRL] ||| m) &&& Config.CTRL_UNNAMED
      = (Config.CTRL_UNNAMED &&& r.x[Config.CTRL]) ||| (Config.CTRL_UNNAMED &&& m) := by
        rw [BitVec.and_comm, BitVec.and_or_distrib_left]
    _ = 0 := by rw [BitVec.and_comm, h.1, BitVec.and_comm, hm]; rfl

theorem keeps_shadowLegal_clearBits (m : Word) :
    (Micro.update fun r => r.clearBits Config.CTRL m).Keeps ShadowLegal := fun r h =>
  h.setCtrl <| calc
    r.x[Config.CTRL] &&& ~~~m &&& Config.CTRL_UNNAMED = r.x[Config.CTRL] &&& Config.CTRL_UNNAMED &&& ~~~m := by
      rw [BitVec.and_assoc, BitVec.and_comm (~~~m), BitVec.and_assoc]
    _ = 0 := by rw [h.1]; exact BitVec.zero_and

theorem keeps_shadowLegal_toggleBits {m : Word} (b : Bool) (hm : m &&& Config.CTRL_UNNAMED = 0) :
    (Micro.update fun r => r.toggleBits Config.CTRL m b).Keeps ShadowLegal := by
  cases b
  · exact keeps_shadowLegal_clearBits m
  · exact keeps_shadowLegal_setBits hm

theorem keeps_shadowLegal_setChan {v : Word} (hv : v &&& 0x0023#16 = 0#16) :
    (Micro.update fun r => r.setSlot Config.CHAN v).Keeps ShadowLegal :=
  fun _ h => h.setChan hv

/-- The soft-mute toggle moves R4 between its two values (R31, R163). -/
theorem keeps_shadowLegal_softMute (b : Bool) :
    (Micro.update fun r => r.toggleBits Config.R4 0x0200#16 b).Keeps ShadowLegal := by
  intro r h
  have hr4 : r.x[Config.R4] = 0x0000 ∨ r.x[Config.R4] = 0x0200 := h.2.2.1
  show ShadowLegal (r.toggleBits _ _ b)
  rw [Regs.toggleBits_eq]
  refine h.setR4 ?_
  cases b <;> rcases hr4 with hr4 | hr4 <;> rw [hr4] <;> decide

theorem keeps_shadowLegal_setFree {a : Slot} (v : Word)
    (ha : a ∈ [Config.CHIPID, Config.VOL, Config.RA, Config.RB]) :
    (Micro.update fun r => r.setSlot a v).Keeps ShadowLegal :=
  fun _ h => h.setFree v ha

theorem keeps_shadowLegal_setVolField (v : BitVec 4) : (Micro.update (Regs.setVolField v)).Keeps ShadowLegal :=
  fun _ h => h.setFree _ (by decide)

theorem keeps_shadowLegal_readRB : (Micro.readReg Config.RB).Keeps ShadowLegal :=
  fun _ v h => h.setFree v (by decide)

theorem keeps_shadowLegal_readSeq : Micro.readSeq.Keeps ShadowLegal :=
  fun _ _ h => (h.setFree _ (by decide)).setFree _ (by decide)

end

/-- The CHAN value of a tune has only TUNE and CHANNEL bits (R143). -/
theorem tuneValue_unnamed (freq : Int) : tuneValue freq &&& 0x0023#16 = 0#16 := by
  simp only [tuneValue, chanValue]
  ext i hi
  interval_cases i <;> simp

/-- The CHAN value of a band has only BAND bits (R180). -/
theorem bandValue_unnamed (band : Band) : bandValue band &&& 0x0023#16 = 0#16 := by
  cases band <;> rfl

/-- Every micro-step of every command keeps the shadow legal: each is one of the kinds above. (`-implicitDefEqProofs`: the
side condition of `keeps_shadowLegal_of_x` comes from `rfl` lemmas, and its proof has to be kept.) -/
theorem bodyOf_keeps_shadowLegal (op : Opcode) (a b : Int) : ∀ m ∈ bodyOf op a b, m.Keeps ShadowLegal := by
  cases op <;>
    simp -implicitDefEqProofs [keeps_shadowLegal_of_x, keeps_shadowLegal_resetState, keeps_shadowLegal_setCtrl,
      keeps_shadowLegal_setBits, keeps_shadowLegal_clearBits, keeps_shadowLegal_toggleBits, keeps_shadowLegal_setChan,
      keeps_shadowLegal_softMute, keeps_shadowLegal_setFree, keeps_shadowLegal_setVolField, keeps_shadowLegal_readRB,
      keeps_shadowLegal_readSeq, tuneValue_unnamed, bandValue_unnamed]

theorem keptByEveryMove_shadowLegal : KeptByEveryMove (fun s => ShadowLegal s.regs) :=
  keptByEveryMove_regs ShadowLegal bodyOf_keeps_shadowLegal (fun _ h => h.of_x_eq rfl) shadowLegal_reset

/-- Settles O45: every micro-step, every answer and a reset keep the shadow legal. -/
theorem everyStepKeepsShadowLegal : Obligations.EveryStepKeepsShadowLegal :=
  keptByEveryMove_shadowLegal.step

end Sys2Proof.Machine
end

section
/-! PROOFS. Ports and sequencer: the invariants of the transport port, the response port and the sequencer (R22, R45,
R60 to R64, R231, R280). -/

namespace Sys2Proof.Machine

open Sys2Proof

/-! ### Legal ports (R45, R60 to R64, R74) -/

/-- A write request carries the shadow's own value of a register 2 to 7 (R61). -/
theorem requestLegal_writeRequest (r : Regs) {a : Slot} (ha : (Micro.writeReg a).Legal) :
    RequestLegal r (r.writeRequest a) :=
  .inl ⟨a, ha.1, ha.2, rfl⟩

/-- The indexed read is of RB (R62). -/
theorem requestLegal_readRequest (r : Regs) {a : Slot} (ha : (Micro.readReg a).Legal) :
    RequestLegal r (readRequest a) := by
  cases (ha : a = Config.RB)
  exact .inr (.inl rfl)

/-- Issuing a legal request keeps the ports of a running command legal. -/
theorem portsLegal_issue (s : State) (q : TxReq) (hop : s.seq.op ≠ none) (hrsp : s.rsp = none)
    (hq : RequestLegal s.regs q) : PortsLegal (s.issue q) := by
  refine ⟨fun h => absurd h hop, fun _ => hrsp, fun q' hq' => ?_⟩
  cases hq'
  exact hq

/-- A response leaves the transport port empty and RSEQ IDLE (R22, R45). -/
theorem portsLegal_emit (s : State) (r : Response) : PortsLegal (s.emit r) :=
  ⟨fun _ => rfl, fun h => absurd rfl h, fun _ h => nomatch h⟩

/-- Legal micro-steps from an empty transport port on leave the ports legal. -/
theorem runFrom_portsLegal (ms : List Micro) (hms : ∀ m ∈ ms, m.Legal) (s : State) (hop : s.seq.op ≠ none)
    (htx : s.tx = none) (hrsp : s.rsp = none) : PortsLegal (runFrom ms s) := by
  induction ms generalizing s with
  | nil => exact ⟨fun _ => htx, fun _ => hrsp, fun q hq => by simp [htx] at hq⟩
  | cons m ms ih =>
    obtain ⟨hm, hrest⟩ := List.forall_mem_cons.mp hms
    cases m with
    | update f => exact ih hrest _ hop htx hrsp
    | writeReg a => exact portsLegal_issue s _ hop hrsp (requestLegal_writeRequest s.regs hm)
    | readReg a => exact portsLegal_issue s _ hop hrsp (requestLegal_readRequest s.regs hm)
    | readSeq => exact portsLegal_issue s _ hop hrsp (.inr (.inr rfl))
    | wait n => exact ⟨fun h => absurd h hop, fun _ => hrsp, fun q hq => by simp [htx] at hq⟩
    | respond f => exact portsLegal_emit s _

/-- A running command is not IDLE. -/
theorem State.Runs.op_ne_none {s : State} {op : Opcode} {a b : Int} (h : s.Runs op a b) : s.seq.op ≠ none := by
  simp [h.1]

/-- The micro-steps behind the one in progress are legal. -/
theorem legal_of_drop_eq_cons {op : Opcode} {a b : Int} {n : Nat} {m : Micro} {rest : List Micro}
    (hdrop : (bodyOf op a b).drop n = m :: rest) : ∀ m' ∈ rest, m'.Legal :=
  fun m' hm => bodyOf_legal op a b m' (mem_of_drop_eq_cons hdrop m' (List.mem_cons_of_mem _ hm))

theorem keptByEveryMove_portsLegal : KeptByEveryMove PortsLegal where
  running _ _ _ :=
    { inputs := fun _ _ h => h
      cmds := fun _ _ h => h
      take := fun _ _ ⟨hidle, _, hreq⟩ => ⟨hidle, fun _ => rfl, hreq⟩
      counts := fun _ _ _ _ _ _ _ _ h => h
      waitEnds := fun _ _ rest _ hrun htx hdrop ⟨_, hbusy, _⟩ =>
        runFrom_portsLegal rest (legal_of_drop_eq_cons hdrop) _ hrun.op_ne_none htx (hbusy hrun.op_ne_none)
      fails := fun _ _ _ _ _ _ _ => portsLegal_emit _ _
      answeredAtEnd := fun _ _ _ _ _ _ _ h => h
      answers := fun _ _ _ rest _ _ hrun _ hdrop ⟨_, hbusy, _⟩ =>
        runFrom_portsLegal rest (legal_of_drop_eq_cons hdrop) _ hrun.op_ne_none rfl (hbusy hrun.op_ne_none) }
  reset _ := ⟨fun _ => rfl, fun h => absurd rfl h, fun _ h => nomatch h⟩
  take _ := fun ⟨hidle, _, hreq⟩ => ⟨hidle, fun _ => rfl, hreq⟩
  refuse _ _ _ _ := portsLegal_emit _ _
  accept s op a b hop hrsp := fun ⟨hidle, _, _⟩ =>
    runFrom_portsLegal _ (bodyOf_legal op a b) _ (s.accept_runs op a b).op_ne_none (hidle hop) hrsp

/-- Settles O46: a request is issued only by a legal micro-step, and every response empties the transport port. -/
theorem everyStepKeepsPortsLegal : Obligations.EveryStepKeepsPortsLegal :=
  keptByEveryMove_portsLegal.step

/-! ### Legal responses (R45, R101, R231) -/

/-- A command that completes responds OK. -/
theorem responseLegal_okResponse (res : Result) (h : res.text.length ≤ 16) : ResponseLegal (okResponse res) :=
  .inl ⟨rfl, h, rfl, rfl, rfl⟩

/-- Every cause has its codes of the table (R231). -/
theorem responseLegal_cause (c : Cause) (step : Byte) : ResponseLegal (c.response step) := by
  cases c with
  | transport kind q => cases kind <;> simp [ResponseLegal, Cause.response, TxError.code]
  | _ => simp [ResponseLegal, Cause.response, Cause.status]

/-- Emitting a legal response. -/
theorem pendingLegal_emit (s : State) (r : Response) (h : ResponseLegal r) : PendingLegal (s.emit r) := by
  intro r' hr
  cases hr
  exact h

/-- Every error is reported by a legal response. -/
theorem pendingLegal_raise (s : State) (c : Cause) : PendingLegal (s.raise c) :=
  pendingLegal_emit _ _ (responseLegal_cause c _)

/-- Legal micro-steps keep the pending response legal. -/
theorem runFrom_pendingLegal (ms : List Micro) (hms : ∀ m ∈ ms, m.Legal) (s : State) (h : PendingLegal s) :
    PendingLegal (runFrom ms s) := by
  induction ms generalizing s with
  | nil => exact h
  | cons m ms ih =>
    obtain ⟨hm, hrest⟩ := List.forall_mem_cons.mp hms
    cases m with
    | update f => exact ih hrest _ h
    | respond f => exact pendingLegal_emit s _ (responseLegal_okResponse _ (hm s.regs))
    | _ => exact h

theorem keptByEveryMove_pendingLegal : KeptByEveryMove PendingLegal where
  running _ _ _ :=
    { inputs := fun _ _ h => h
      cmds := fun _ _ h => h
      take := fun _ _ _ _ hr => nomatch hr
      counts := fun _ _ _ _ _ _ _ _ h => h
      waitEnds := fun _ _ rest _ _ _ hdrop h => runFrom_pendingLegal rest (legal_of_drop_eq_cons hdrop) _ h
      fails := fun _ _ _ _ _ _ _ => pendingLegal_raise _ _
      answeredAtEnd := fun _ _ _ _ _ _ _ h => h
      answers := fun _ _ _ rest _ _ _ _ hdrop h => runFrom_pendingLegal rest (legal_of_drop_eq_cons hdrop) _ h }
  reset _ _ hr := nomatch hr
  take _ _ _ hr := nomatch hr
  refuse _ _ _ _ := pendingLegal_raise _ _
  accept _ op a b _ _ h := runFrom_pendingLegal _ (bodyOf_legal op a b) _ h

/-- Settles O47: every response is OK with a text that fits, or reports a cause of the table. -/
theorem everyStepKeepsPendingLegal : Obligations.EveryStepKeepsPendingLegal :=
  keptByEveryMove_pendingLegal.step

/-! ### Legal sequencer (R22, R64, R73, R280) -/

/-- The micro-step is the one in progress: its request is on the transport port, or its Wait has not counted out. -/
def Micro.InProgressIn (s : State) : Micro → Prop
  | .writeReg a => s.tx = some (s.regs.writeRequest a)
  | .readReg a => s.tx = some (readRequest a)
  | .readSeq => s.tx = some burstRequest
  | .wait n => s.tx = none ∧ s.seq.timer < n
  | .update _ => False
  | .respond _ => False

/-- A body is in progress in the micro-step at `seq.pos`. -/
theorem inProgress_iff (body : List Micro) (s : State) :
    InProgress body s ↔
      s.seq.step = BitVec.ofNat 8 (transactionCount (body.take s.seq.pos) + (if s.tx.isSome then 1 else 0)) ∧
      ∃ m, body[s.seq.pos]? = some m ∧ m.InProgressIn s := by
  unfold InProgress
  cases body[s.seq.pos]? with
  | none => simp
  | some m => cases m <;> simp [Micro.InProgressIn]

/-- A request is on the port exactly in a transaction. -/
theorem Micro.InProgressIn.isTransaction_eq {m : Micro} {s : State} (h : m.InProgressIn s) :
    m.isTransaction = s.tx.isSome := by
  cases m with
  | update f => exact h.elim
  | respond f => exact h.elim
  | wait n => simp [Micro.isTransaction, h.1]
  | writeReg a => simp [Micro.isTransaction, show s.tx = _ from h]
  | readReg a => simp [Micro.isTransaction, show s.tx = _ from h]
  | readSeq => simp [Micro.isTransaction, show s.tx = _ from h]

/-- The sequencer of a running command is legal when its body is in progress. -/
theorem State.Runs.sequencerLegal_iff {s : State} {op : Opcode} {a b : Int} (h : s.Runs op a b) :
    SequencerLegal s ↔ InProgress (bodyOf op a b) s := by
  obtain ⟨hop, rfl, rfl⟩ := h
  simp [SequencerLegal, hop]

/-- The first of the micro-steps that are left is the one at the position. -/
theorem getElem?_of_drop_eq_cons {body rest : List Micro} {n : Nat} {m : Micro} (hdrop : body.drop n = m :: rest) :
    body[n]? = some m := by
  rw [← List.head?_drop, hdrop, List.head?_cons]

/-- The micro-steps that are left behind the first. -/
theorem drop_succ_of_drop_eq_cons {body rest : List Micro} {n : Nat} {m : Micro} (hdrop : body.drop n = m :: rest) :
    body.drop (n + 1) = rest := by
  rw [← List.tail_drop, hdrop, List.tail_cons]

/-- Behind every micro-step but the response there is another one (R45). -/
theorem rest_ne_nil {op : Opcode} {a b : Int} {n : Nat} {m : Micro} {rest : List Micro}
    (hdrop : (bodyOf op a b).drop n = m :: rest) (hm : ∀ f, m ≠ .respond f) : rest ≠ [] := by
  rintro rfl
  obtain ⟨f, hlast⟩ := bodyOf_getLast? op a b
  have hlen : n < (bodyOf op a b).length := by
    by_contra hge
    simp [List.drop_eq_nil_of_le (Nat.le_of_not_lt hge)] at hdrop
  have hdropLast : ((bodyOf op a b).drop n).getLast? = some (.respond f) := by
    rw [List.getLast?_drop, if_neg (Nat.not_le.mpr hlen), hlast]
  rw [hdrop] at hdropLast
  exact hm f (by simpa using hdropLast)

/-- The transactions up to and including the micro-step at the position. -/
theorem transactionCount_take_succ {body : List Micro} {n : Nat} {m : Micro} (hm : body[n]? = some m) :
    transactionCount (body.take (n + 1)) = transactionCount (body.take n) + (if m.isTransaction then 1 else 0) := by
  rw [List.take_add_one, hm]
  cases h : m.isTransaction <;> simp [transactionCount, h]

/-- A command in progress has issued the transactions up to and including its micro-step (R22). -/
theorem InProgress.step_eq {body : List Micro} {s : State} (h : InProgress body s) :
    s.seq.step = BitVec.ofNat 8 (transactionCount (body.take (s.seq.pos + 1))) := by
  obtain ⟨hstep, m, hm, hin⟩ := (inProgress_iff body s).mp h
  rw [transactionCount_take_succ hm, hin.isTransaction_eq]
  exact hstep

/-- A command that has just issued the request of its micro-step is in progress. -/
theorem inProgress_issue (body : List Micro) (s : State) (q : TxReq) (m : Micro) (hm : body[s.seq.pos]? = some m)
    (hin : m.InProgressIn (s.issue q))
    (hstep : s.seq.step = BitVec.ofNat 8 (transactionCount (body.take s.seq.pos))) :
    InProgress body (s.issue q) := by
  refine (inProgress_iff body _).mpr ⟨?_, m, hm, hin⟩
  simp [hstep, BitVec.ofNat_add]

/-- The micro-steps that are left of a command, from an empty transport port and the right count on, leave the sequencer
legal. -/
theorem runFrom_sequencerLegal (op : Opcode) (a b : Int) (ms : List Micro) (s : State) (hrun : s.Runs op a b)
    (hms : (bodyOf op a b).drop s.seq.pos = ms) (hne : ms ≠ []) (htx : s.tx = none)
    (hstep : s.seq.step = BitVec.ofNat 8 (transactionCount ((bodyOf op a b).take s.seq.pos))) :
    SequencerLegal (runFrom ms s) := by
  induction ms generalizing s with
  | nil => exact absurd rfl hne
  | cons m ms ih =>
    have hm := getElem?_of_drop_eq_cons hms
    cases m with
    | update f =>
      refine ih _ hrun (drop_succ_of_drop_eq_cons hms) (rest_ne_nil hms (by simp)) htx ?_
      simpa [transactionCount_take_succ hm, Micro.isTransaction] using hstep
    | writeReg r =>
      have hr : (s.issue (s.regs.writeRequest r)).Runs op a b := hrun
      exact hr.sequencerLegal_iff.mpr (inProgress_issue _ s _ _ hm rfl hstep)
    | readReg r =>
      have hr : (s.issue (readRequest r)).Runs op a b := hrun
      exact hr.sequencerLegal_iff.mpr (inProgress_issue _ s _ _ hm rfl hstep)
    | readSeq =>
      have hr : (s.issue burstRequest).Runs op a b := hrun
      exact hr.sequencerLegal_iff.mpr (inProgress_issue _ s _ _ hm rfl hstep)
    | wait n =>
      have hr : (s.startWait n).Runs op a b := hrun
      have hpos : (Micro.wait n).Legal := bodyOf_legal op a b _ (List.mem_of_getElem? hm)
      refine hr.sequencerLegal_iff.mpr ((inProgress_iff _ _).mpr ⟨?_, _, hm, htx, hpos⟩)
      simpa [htx] using hstep
    | respond f => exact rfl

/-- Once the micro-step in progress is over, the rest of the command leaves the sequencer legal. -/
theorem runFrom_rest_sequencerLegal {op : Opcode} {a b : Int} {s : State} {m : Micro} {rest : List Micro}
    (hrun : s.Runs op a b) (h : SequencerLegal s) (hdrop : (bodyOf op a b).drop s.seq.pos = m :: rest) (s' : State)
    (hrun' : s'.Runs op a b) (hpos : s'.seq.pos = s.seq.pos + 1) (hstep : s'.seq.step = s.seq.step)
    (htx : s'.tx = none) : SequencerLegal (runFrom rest s') := by
  have hin := hrun.sequencerLegal_iff.mp h
  have hm : m.InProgressIn s := by
    obtain ⟨_, m', hm', hin'⟩ := (inProgress_iff _ s).mp hin
    rw [getElem?_of_drop_eq_cons hdrop] at hm'
    cases hm'
    exact hin'
  refine runFrom_sequencerLegal op a b rest s' hrun' (hpos ▸ drop_succ_of_drop_eq_cons hdrop)
    (rest_ne_nil hdrop ?_) htx ?_
  · rintro f rfl
    exact hm
  · rw [hstep, hpos, hin.step_eq]

theorem keptByEveryMove_sequencerLegal : KeptByEveryMove SequencerLegal where
  running op a b :=
    { inputs := fun _ _ h => h
      cmds := fun _ _ h => h
      take := fun _ _ h => h
      counts := fun s n rest count hrun htx hdrop hlt h => by
        have hrun' : State.Runs { s with seq := { s.seq with timer := s.seq.timer + count } } op a b := hrun
        obtain ⟨hstep, _⟩ := (inProgress_iff _ s).mp (hrun.sequencerLegal_iff.mp h)
        exact hrun'.sequencerLegal_iff.mpr
          ((inProgress_iff _ _).mpr ⟨hstep, _, getElem?_of_drop_eq_cons hdrop, htx, hlt⟩)
      waitEnds := fun _ _ _ _ hrun htx hdrop h =>
        runFrom_rest_sequencerLegal hrun h hdrop _ hrun rfl rfl htx
      fails := fun _ _ _ _ _ _ _ => rfl
      answeredAtEnd := fun s q err rdata hrun _ hdrop h => by
        obtain ⟨_, m, hm, _⟩ := (inProgress_iff _ s).mp (hrun.sequencerLegal_iff.mp h)
        rw [← List.head?_drop, hdrop] at hm
        cases hm
      answers := fun _ _ _ _ _ _ hrun _ hdrop h =>
        runFrom_rest_sequencerLegal hrun h hdrop _ hrun rfl rfl rfl }
  reset _ := rfl
  take _ h := h
  refuse _ _ _ _ := rfl
  accept s op a b hop _ h := by
    have htx : s.tx = none := by simpa [SequencerLegal, hop] using h
    have hne : bodyOf op a b ≠ [] := by
      obtain ⟨f, hf⟩ := bodyOf_getLast? op a b
      exact fun hnil => by simp [hnil] at hf
    exact runFrom_sequencerLegal op a b _ _ (s.accept_runs op a b) rfl hne htx rfl

/-- Settles O48: each move leaves RSEQ IDLE, in the same Wait, or in the next transaction or Wait of the body. -/
theorem everyStepKeepsSequencerLegal : Obligations.EveryStepKeepsSequencerLegal :=
  keptByEveryMove_sequencerLegal.step

end Sys2Proof.Machine
end

section
/-! PROOFS. Ready: what holds of the register files wherever a command stops, and the invariant of a READY RSEQ (R25,
R31, R32, R37, R38). -/

namespace Sys2Proof.Machine

open Sys2Proof

/-! ### Where micro-steps stop -/

/-- The micro-steps, which start at the position with these register files, run their internal updates and stop
with A. -/
def StopsWith (A : Nat → Regs → Prop) : List Micro → Nat → Regs → Prop
  | [], pos, r => A pos r
  | .update f :: ms, pos, r => StopsWith A ms (pos + 1) (f r)
  | .writeReg _ :: _, pos, r => A pos r
  | .readReg _ :: _, pos, r => A pos r
  | .readSeq :: _, pos, r => A pos r
  | .wait _ :: _, pos, r => A pos r
  | .respond _ :: _, pos, r => A pos r

/-- From every micro-step that waits for the outside, with A, the micro-steps behind it stop with A. -/
def GoesOnWith (A : Nat → Regs → Prop) : List Micro → Nat → Prop
  | [], _ => True
  | .update _ :: ms, pos => GoesOnWith A ms (pos + 1)
  | m :: ms, pos => (∀ r rdata, A pos r → StopsWith A ms (pos + 1) (m.store rdata r)) ∧ GoesOnWith A ms (pos + 1)

/-- A run of micro-steps stops as `StopsWith` says. -/
theorem runFrom_stopsWith (A : Nat → Regs → Prop) (ms : List Micro) (s : State)
    (h : StopsWith A ms s.seq.pos s.regs) : A (runFrom ms s).seq.pos (runFrom ms s).regs := by
  induction ms generalizing s with
  | nil => exact h
  | cons m ms ih =>
    cases m with
    | update f => exact ih _ h
    | _ => exact h

/-- `GoesOnWith` at one of the micro-steps. -/
theorem GoesOnWith.stopsWith {A : Nat → Regs → Prop} {ms rest : List Micro} {start n : Nat} {m : Micro}
    (h : GoesOnWith A ms start) (hdrop : ms.drop n = m :: rest) (hm : ∀ f, m ≠ .update f) (r : Regs)
    (rdata : BitVec 32) (hr : A (start + n) r) : StopsWith A rest (start + n + 1) (m.store rdata r) := by
  induction ms generalizing start n with
  | nil => simp at hdrop
  | cons m' ms ih =>
    cases n with
    | zero =>
      cases hdrop
      cases m with
      | update f => exact absurd rfl (hm f)
      | _ => exact h.1 r rdata hr
    | succ n =>
      have htail : GoesOnWith A ms (start + 1) := by
        cases m' with
        | update f => exact h
        | _ => exact h.2
      have hsucc : start + 1 + n = start + (n + 1) := by omega
      simpa only [hsucc] using ih htail hdrop (by rw [hsucc]; exact hr)

/-! ### The facts of a READY RSEQ -/

/-- The register files of a READY RSEQ. -/
def ReadyRegs (r : Regs) : Prop := r.life = .ready → ReadyFacts r

/-- Any readback gives 8700 + 10 k with a k of ten bits (R37, R144). -/
theorem freqOf_eq (ra : Word) : ∃ k : Nat, k ≤ 1023 ∧ (freqOf ra).toNat = 8700 + 10 * k := by
  have hk : (ra &&& Config.raChanMask).toNat ≤ 1023 := by
    rw [BitVec.toNat_and]
    exact Nat.and_le_right
  refine ⟨_, hk, ?_⟩
  rw [freqOf, show Config.freqLow.toNat = 8700 from rfl, show Config.freqStep = 10 from rfl, BitVec.toNat_ofNat,
    Nat.mod_eq_of_lt (by omega), Nat.mul_comm]

/-- The volume field leaves the other bits of VOL alone (R164). -/
theorem volField_upper (w : Word) (v : BitVec 4) :
    (w ||| v.setWidth 16) &&& ~~~Config.VOL_FIELD = w &&& ~~~Config.VOL_FIELD := by
  ext i hi
  interval_cases i <;> simp

/-- Only `life`, CHIPID, R4, VOL, the volume, the soft-mute flag and the frequency have a part in the facts of a READY
RSEQ. -/
theorem readyRegs_congr {r r' : Regs} (hlife : r'.life = r.life) (hchip : r'.x[Config.CHIPID] = r.x[Config.CHIPID])
    (hr4 : r'.x[Config.R4] = r.x[Config.R4]) (hvol : r'.x[Config.VOL] = r.x[Config.VOL])
    (hvolume : r'.d.volume = r.d.volume) (hsoft : r'.d.softMute = r.d.softMute)
    (hfreq : r'.d.frequency = r.d.frequency) : ReadyRegs r' ↔ ReadyRegs r := by
  simp only [ReadyRegs, ReadyFacts, hlife, hchip, hr4, hvol, hvolume, hsoft, hfreq]

/-- The other flags, the band and the status fields have none. -/
theorem readyRegs_flags (r : Regs) :
    (∀ b, ReadyRegs (r.setBassBoost b) ↔ ReadyRegs r) ∧ (∀ b, ReadyRegs (r.setMono b) ↔ ReadyRegs r) ∧
    (∀ b, ReadyRegs (r.setMute b) ↔ ReadyRegs r) ∧ (∀ band, ReadyRegs (r.setBand band) ↔ ReadyRegs r) ∧
    (ReadyRegs r.readbackRssi ↔ ReadyRegs r) ∧ (ReadyRegs r.readbackRds ↔ ReadyRegs r) ∧
    (ReadyRegs r.readbackTuned ↔ ReadyRegs r) ∧ (ReadyRegs r.readbackMono ↔ ReadyRegs r) :=
  ⟨fun _ => .rfl, fun _ => .rfl, fun _ => .rfl, fun _ => .rfl, .rfl, .rfl, .rfl, .rfl⟩

/-- Nor have CTRL, CHAN, RA and RB. -/
theorem readyRegs_setSlot (r : Regs) {a : Slot} (v : Word)
    (ha : a ∈ [Config.CTRL, Config.CHAN, Config.RA, Config.RB]) : ReadyRegs (r.setSlot a v) ↔ ReadyRegs r := by
  simp only [List.mem_cons, List.not_mem_nil, or_false] at ha
  apply readyRegs_congr <;> rcases ha with rfl | rfl | rfl | rfl <;> simp

/-- The updates of CTRL and the burst write no other slot. -/
theorem readyRegs_ctrl_burst (r : Regs) :
    (∀ m, ReadyRegs (r.setBits Config.CTRL m) ↔ ReadyRegs r) ∧
    (∀ m, ReadyRegs (r.clearBits Config.CTRL m) ↔ ReadyRegs r) ∧
    (∀ m b, ReadyRegs (r.toggleBits Config.CTRL m b) ↔ ReadyRegs r) ∧
    (∀ rdata, ReadyRegs (r.storeBurst rdata) ↔ ReadyRegs r) := by
  simp [Regs.setBits, Regs.clearBits, Regs.toggleBits_eq, Regs.storeBurst, readyRegs_setSlot]

/-- A readback keeps the form of the frequency (R37). -/
theorem ReadyRegs.readbackFrequency {r : Regs} (h : ReadyRegs r) : ReadyRegs r.readbackFrequency := fun hlife =>
  have ⟨hchip, hvol, hr4, _⟩ := h hlife
  ⟨hchip, hvol, hr4, freqOf_eq _⟩

/-- SETVOLUME's two updates keep VOL in agreement with the volume (R32, R164). -/
theorem ReadyRegs.setVolume {r : Regs} (h : ReadyRegs r) (v : BitVec 4) :
    ReadyRegs (Regs.setVolField v (Regs.setVolume v r)) := by
  intro hlife
  obtain ⟨hchip, hvol, hr4, hfreq⟩ := h hlife
  have hupper : r.x[Config.VOL] &&& ~~~Config.VOL_FIELD = 0x84D0 := by rw [hvol, volField_upper]; rfl
  refine ⟨by simpa [Regs.setVolField] using hchip, ?_, ?_, hfreq⟩
  · simp only [Regs.setVolField, Regs.setVolume_x, Regs.setSlot_same, hupper]
    rfl
  · rw [Regs.setVolField, Regs.setSlot_other _ _ _ _ (by decide)]
    exact hr4

/-- SETSOFTMUTE's two updates keep R4 in agreement with the flag (R31, R163). -/
theorem ReadyRegs.setSoftMute {r : Regs} (h : ReadyRegs r) (b : Bool) :
    ReadyRegs ((Regs.setSoftMute b r).toggleBits Config.R4 0x0200#16 b) := by
  intro hlife
  rw [Regs.toggleBits_eq] at hlife ⊢
  obtain ⟨hchip, hvol, hr4, hfreq⟩ := h hlife
  refine ⟨by simpa using hchip, by simpa using hvol, ?_, hfreq⟩
  rw [Regs.setSlot_same, Regs.setSoftMute_x, hr4]
  cases b <;> cases r.d.softMute <;> rfl

/-- A TERMINATED RSEQ is not READY. -/
theorem readyRegs_terminated (r : Regs) : ReadyRegs (r.setLife .terminated) := fun h => nomatch h

/-- A command other than INIT keeps the facts of a READY RSEQ from each transaction or Wait to the next one. -/
theorem bodyOf_goesOnWith_readyRegs (op : Opcode) (a b : Int) (hop : op ≠ .init) :
    GoesOnWith (fun _ => ReadyRegs) (bodyOf op a b) 0 := by
  cases op
  case init => exact absurd rfl hop
  all_goals
    simp +contextual [GoesOnWith, StopsWith, Micro.store, readyRegs_flags, readyRegs_setSlot, readyRegs_ctrl_burst,
      readyRegs_terminated, ReadyRegs.readbackFrequency]

/-- A command other than INIT keeps the facts of a READY RSEQ up to its first transaction or its response. -/
theorem bodyOf_stopsWith_readyRegs (op : Opcode) (a b : Int) (hop : op ≠ .init) (r : Regs) (h : ReadyRegs r) :
    StopsWith (fun _ => ReadyRegs) (bodyOf op a b) 0 r := by
  cases op
  case init => exact absurd rfl hop
  all_goals
    simp [StopsWith, readyRegs_flags, readyRegs_setSlot, readyRegs_ctrl_burst, ReadyRegs.setVolume,
      ReadyRegs.setSoftMute, h]

/-! ### What INIT establishes on its way (R120 to R122) -/

/-- The same updates have no part in what INIT has established. -/
theorem initFacts_flags (pos : Nat) (r : Regs) (b : Bool) :
    (InitFacts pos (r.setBassBoost b) ↔ InitFacts pos r) ∧ (InitFacts pos (r.setMute b) ↔ InitFacts pos r) ∧
    (InitFacts pos (r.setRds b) ↔ InitFacts pos r) :=
  ⟨.rfl, .rfl, .rfl⟩

theorem initFacts_setSlot (pos : Nat) (r : Regs) {a : Slot} (v : Word)
    (ha : a ∈ [Config.CTRL, Config.CHAN, Config.RA, Config.RB]) :
    InitFacts pos (r.setSlot a v) ↔ InitFacts pos r := by
  simp only [List.mem_cons, List.not_mem_nil, or_false] at ha
  rcases ha with rfl | rfl | rfl | rfl <;> simp [InitFacts]

theorem initFacts_ctrl_burst (pos : Nat) (r : Regs) :
    (∀ m, InitFacts pos (r.setBits Config.CTRL m) ↔ InitFacts pos r) ∧
    (∀ m b, InitFacts pos (r.toggleBits Config.CTRL m b) ↔ InitFacts pos r) ∧
    (∀ rdata, InitFacts pos (r.storeBurst rdata) ↔ InitFacts pos r) := by
  simp [Regs.setBits, Regs.toggleBits_eq, Regs.storeBurst, initFacts_setSlot]

/-- From the write of VOL to the readback nothing new is established. -/
theorem initFacts_before_readback {pos : Nat} (r : Regs) (h5 : 5 < pos) (h22 : pos < 22) :
    InitFacts pos r ↔ InitFacts 5 r := by
  have : ¬22 ≤ pos := by omega
  have : ¬24 ≤ pos := by omega
  have : 5 ≤ pos := by omega
  simp [InitFacts, *]

/-- `reset_state()` and the CHIPID update establish the first facts (R120, R121). -/
theorem initFacts_start (r : Regs) : InitFacts 3 ((resetState r).setSlot Config.CHIPID 0x0058#16) :=
  ⟨rfl, by simp, by simp [resetState], rfl, by simp, by simp, by simp⟩

/-- VOL gets its default (R32, R121). -/
theorem InitFacts.setVolDefault {r : Regs} (h : InitFacts 3 r) : InitFacts 5 (r.setSlot Config.VOL 0x84D1#16) := by
  obtain ⟨hlife, hchip, hr4, hsoft, _⟩ := h
  exact ⟨hlife, by simpa using hchip, by simpa using hr4, hsoft, fun _ => by simp, by simp, by simp⟩

/-- The readback gives the frequency its form, and the volume goes into VOL and `d.volume` (R122). -/
theorem InitFacts.readbackAndVolume {r : Regs} (h : InitFacts 5 r) (v : BitVec 4) :
    InitFacts 24 (Regs.setVolField v (Regs.setVolume v r.readbackFrequency)) := by
  obtain ⟨hlife, hchip, hr4, hsoft, hvol, _⟩ := h
  have hfield : (Regs.setVolField v (Regs.setVolume v r.readbackFrequency)).x[Config.VOL] =
      0x84D0 ||| v.setWidth 16 := by
    simp only [Regs.setVolField, Regs.setVolume_x, Regs.readbackFrequency_x, Regs.setSlot_same, hvol (Nat.le_refl 5)]
  refine ⟨hlife, by simpa [Regs.setVolField] using hchip, by simpa [Regs.setVolField] using hr4, hsoft, fun _ => ?_,
    fun _ => freqOf_eq _, fun _ => hfield⟩
  rw [hfield, volField_upper]
  rfl

/-- At its end INIT has established the facts of a READY RSEQ (R120). -/
theorem InitFacts.ready {r : Regs} (h : InitFacts 24 r) : ReadyFacts (Regs.setLife .ready (Regs.setTuned true r)) := by
  obtain ⟨_, hchip, hr4, hsoft, _, hfreq, hvol⟩ := h
  refine ⟨hchip, hvol (Nat.le_refl 24), ?_, hfreq (by decide)⟩
  simpa [hsoft] using hr4

/-- What INIT has established at a position of its body: the facts on its way, and those of a READY RSEQ at its
response. -/
def InitAt (pos : Nat) (r : Regs) : Prop := if pos < 27 then InitFacts pos r else ReadyFacts r

/-- INIT goes on as `InitAt` says from each transaction or Wait to the next one. -/
theorem bodyOf_init_goesOnWith (a b : Int) : GoesOnWith InitAt (bodyOf .init a b) 0 := by
  simp +contextual [GoesOnWith, StopsWith, Micro.store, InitAt, initFacts_flags, initFacts_setSlot,
    initFacts_ctrl_burst, initFacts_before_readback, InitFacts.setVolDefault, InitFacts.readbackAndVolume, InitFacts.ready]

/-- INIT comes to its first transaction with its first facts. -/
theorem bodyOf_init_stopsWith (a b : Int) (r : Regs) : StopsWith InitAt (bodyOf .init a b) 0 r := by
  simp [StopsWith, InitAt, initFacts_setSlot, initFacts_start]

/-! ### The invariant -/

/-- What holds of the register files where a command stops. -/
def StoppedRegs (op : Opcode) (pos : Nat) (r : Regs) : Prop := if op = .init then InitAt pos r else ReadyRegs r

theorem bodyOf_goesOnWith (op : Opcode) (a b : Int) : GoesOnWith (StoppedRegs op) (bodyOf op a b) 0 := by
  by_cases hop : op = .init
  · subst hop
    exact bodyOf_init_goesOnWith a b
  · rw [show StoppedRegs op = fun _ => ReadyRegs by funext pos r; simp [StoppedRegs, hop]]
    exact bodyOf_goesOnWith_readyRegs op a b hop

theorem bodyOf_stopsWith (op : Opcode) (a b : Int) (r : Regs) (h : ReadyRegs r) :
    StopsWith (StoppedRegs op) (bodyOf op a b) 0 r := by
  by_cases hop : op = .init
  · subst hop
    exact bodyOf_init_stopsWith a b r
  · rw [show StoppedRegs op = fun _ => ReadyRegs by funext pos r; simp [StoppedRegs, hop]]
    exact bodyOf_stopsWith_readyRegs op a b hop r h

/-- INIT in progress is before its response. -/
theorem InProgress.pos_lt_of_init {a b : Int} {s : State} (h : InProgress (bodyOf .init a b) s) : s.seq.pos < 27 := by
  obtain ⟨_, m, hm, hin⟩ := (inProgress_iff _ s).mp h
  have hlen : s.seq.pos < (bodyOf .init a b).length := (List.getElem?_eq_some_iff.mp hm).1
  have hne : s.seq.pos ≠ 27 := by
    intro heq
    rw [heq] at hm
    cases hm
    exact hin
  simp at hlen
  omega

/-- An INIT that has not ended has the facts of a READY RSEQ, if READY. -/
theorem InitAt.readyRegs {pos : Nat} {r : Regs} (h : InitAt pos r) : ReadyRegs r := by
  intro hlife
  unfold InitAt at h
  split at h
  · rw [h.1] at hlife
    contradiction
  · exact h

theorem StoppedRegs.readyRegs {op : Opcode} {pos : Nat} {r : Regs} (h : StoppedRegs op pos r) : ReadyRegs r := by
  unfold StoppedRegs at h
  split at h
  · exact h.readyRegs
  · exact h

/-- The invariant of a command in progress says what holds where it stopped. -/
theorem ReadyLegal.stoppedRegs {op : Opcode} {a b : Int} {s : State} (h : ReadyLegal s) (hrun : s.Runs op a b) :
    StoppedRegs op s.seq.pos s.regs := by
  obtain ⟨hseq, hready, hinit⟩ := h
  unfold StoppedRegs
  split
  · next heq =>
    subst heq
    have hpos := (hrun.sequencerLegal_iff.mp hseq).pos_lt_of_init
    simpa [InitAt, hpos] using hinit hrun.1
  · exact hready

/-- A command that has ended or stopped with `StoppedRegs` meets the invariant. -/
theorem readyLegal_of_stoppedRegs {op : Opcode} {a b : Int} {s : State} (hseq : SequencerLegal s)
    (hrun : s.IdleOrRuns op a b) (h : StoppedRegs op s.seq.pos s.regs) : ReadyLegal s := by
  refine ⟨hseq, h.readyRegs, fun hop => ?_⟩
  rcases hrun with hidle | hrun
  · rw [hidle] at hop
    contradiction
  · obtain rfl : op = .init := Option.some.inj (hrun.1.symm.trans hop)
    have hpos := (hrun.sequencerLegal_iff.mp hseq).pos_lt_of_init
    simpa [StoppedRegs, InitAt, hpos] using h

/-- Once the micro-step in progress is over, the rest of the command keeps the invariant. -/
theorem runFrom_rest_readyLegal {op : Opcode} {a b : Int} {s : State} {m : Micro} {rest : List Micro}
    (hrun : s.Runs op a b) (h : ReadyLegal s) (hdrop : (bodyOf op a b).drop s.seq.pos = m :: rest) (s' : State)
    (rdata : BitVec 32) (hrun' : s'.Runs op a b) (hregs : s'.regs = m.store rdata s.regs)
    (hpos : s'.seq.pos = s.seq.pos + 1) (hseq : SequencerLegal (runFrom rest s')) : ReadyLegal (runFrom rest s') := by
  have hm : ∀ f, m ≠ .update f := by
    rintro f rfl
    obtain ⟨_, m', hm', hin⟩ := (inProgress_iff _ s).mp (hrun.sequencerLegal_iff.mp h.1)
    rw [getElem?_of_drop_eq_cons hdrop] at hm'
    cases hm'
    exact hin
  have hstop := (bodyOf_goesOnWith op a b).stopsWith hdrop hm s.regs rdata (by simpa using h.stoppedRegs hrun)
  refine readyLegal_of_stoppedRegs hseq (runFrom_idleOrRuns rest s' op a b hrun') (runFrom_stopsWith _ rest s' ?_)
  simpa [hregs, hpos] using hstop

/-- An error changes no fact of a READY RSEQ: it leaves `life` or sets UNINIT. -/
theorem readyLegal_raise (s : State) (c : Cause) (h : ReadyLegal s) : ReadyLegal (s.raise c) := by
  refine ⟨rfl, fun hlife => ?_, fun hop => nomatch hop⟩
  obtain ⟨_, hready, _⟩ := h
  refine hready ?_
  cases c with
  | transport kind q =>
    simp only [State.raise_regs_life, Cause.lifeAfter] at hlife
    split at hlife
    · contradiction
    · exact hlife
  | _ => exact hlife

theorem keptByEveryMove_readyLegal : KeptByEveryMove ReadyLegal where
  running op a b :=
    have hS := keptByEveryMove_sequencerLegal.running op a b
    { inputs := fun _ _ h => h
      cmds := fun _ _ h => h
      take := fun _ _ h => h
      counts := fun s n rest count hrun htx hdrop hlt h =>
        ⟨hS.counts s n rest count hrun htx hdrop hlt h.1, h.2⟩
      waitEnds := fun s n rest count hrun htx hdrop h =>
        runFrom_rest_readyLegal hrun h hdrop _ 0 hrun rfl rfl (hS.waitEnds s n rest count hrun htx hdrop h.1)
      fails := fun s _ _ _ _ _ h => readyLegal_raise _ _ (show ReadyLegal (s.observe _) from h)
      answeredAtEnd := fun _ _ _ _ _ _ _ h => h
      answers := fun s q m rest err rdata hrun htx hdrop h =>
        runFrom_rest_readyLegal hrun h hdrop _ rdata hrun rfl rfl
          (hS.answers s q m rest err rdata hrun htx hdrop h.1) }
  reset s := by
    refine ⟨rfl, fun hlife => ?_, fun hop => ?_⟩
    · simp [Regs.reset] at hlife
    · simp [Seq.reset] at hop
  take _ h := h
  refuse s c _ h := readyLegal_raise s c h
  accept s op a b hop hrsp h := by
    have hrun := s.accept_runs op a b
    exact readyLegal_of_stoppedRegs (keptByEveryMove_sequencerLegal.accept s op a b hop hrsp h.1)
      (runFrom_idleOrRuns _ _ op a b hrun) (runFrom_stopsWith _ _ _ (bodyOf_stopsWith op a b s.regs h.2.1))

/-- Settles O49: INIT establishes the facts of a READY RSEQ on its way, and every other command keeps them from each of
its transactions and Waits to the next. -/
theorem everyStepKeepsReadyLegal : Obligations.EveryStepKeepsReadyLegal :=
  keptByEveryMove_readyLegal.step

end Sys2Proof.Machine
end

section
/-! PROOFS. Steps: single steps of RSEQ (R41, R45, R46, R50), and the run of a command with no answer, within a Wait, or
up to its one response (R45, R64, R280). -/

namespace Sys2Proof.Machine

open Sys2Proof

/-! ### Reset and status values -/

/-- Settles O50: `rst` from the reset state is the reset state, and a reset establishes every invariant. -/
theorem invariantsHoldAtReset : Obligations.InvariantsHoldAtReset :=
  ⟨shadowLegal_reset, keptByEveryMove_portsLegal.reset .reset, keptByEveryMove_pendingLegal.reset .reset,
    keptByEveryMove_sequencerLegal.reset .reset, keptByEveryMove_readyLegal.reset .reset⟩

/-- Settles O13: the slots read 0, and every other field is its literal of `State.reset`. -/
theorem resetValues : Obligations.ResetValues := by
  refine ⟨fun a => Regs.reset_getElem a.val a.isLt, ?_⟩
  simp [State.reset, Regs.reset, Derived.reset, Seq.reset, State.rspValid, State.txValid]

/-- Settles O34: shifting by ten bits leaves the quotient by 1024, which has six bits. -/
theorem rssiIsTheUpperSixBits : Obligations.RssiIsTheUpperSixBits := by
  intro rb
  have hlt : rb.toNat < 65536 := rb.isLt
  have hval : (rssiOf rb).toNat = rb.toNat / 1024 := by
    rw [rssiOf, BitVec.toNat_setWidth, BitVec.toNat_ushiftRight, Nat.shiftRight_eq_div_pow]
    exact Nat.mod_eq_of_lt (by simp only [Config.rssiShift]; omega)
  exact ⟨hval, by omega⟩

/-- Settles O40: by counting in each body. -/
theorem transactionCounts : Obligations.TransactionCounts :=
  ⟨fun _ _ => rfl, rfl, fun _ => rfl, fun _ => rfl, rfl, transactionCount_bodyOf_le⟩

/-! ### Single steps -/

/-- Settles O6: a ready RSEQ fetches the first word, and a word that decodes to a command is run. -/
theorem stepRunsThePresentedCommand : Obligations.StepRunsThePresentedCommand := by
  intro s w ws i hop hrsp hcmds hdec
  have hfetch : fetch s = some w := by simp [fetch, State.cmdReady, hop, hrsp, hcmds]
  have hdrop : s.dropFetched = { s with cmds := ws } := by simp [State.dropFetched, hcmds]
  simp [step, hop, hfetch, hdec, hdrop]

/-- While a response is pending no word is accepted: the step takes the next input (R45, R46). -/
theorem step_of_pending (s : State) (hop : s.seq.op = none) (hrsp : s.rsp ≠ none) : step s = .next (idleStep s) := by
  rcases step_cases s with ⟨op, hop', _⟩ | ⟨w, i, hf, _⟩ | ⟨w, r, hf, _⟩ | ⟨_, _, heq⟩
  · rw [hop] at hop'
    contradiction
  · exact absurd (ready_of_fetch hf).2 hrsp
  · exact absurd (ready_of_fetch hf).2 hrsp
  · exact heq

/-- Settles O14: each clause is one input of `idleStep`. -/
theorem responseStaysUntilTaken : Obligations.ResponseStaysUntilTaken := by
  intro s r hop hrsp
  rw [step_of_pending s hop (by simp [hrsp])]
  refine ⟨fun rest h => ?_, fun w rest h => ?_, fun n rest h => ?_, fun h => ?_⟩ <;>
    simp [idleStep, idleInput, State.takeResponse, h]

/-! ### Presented commands wait (R46) -/

/-- One input presents at most the word it carries, while a command runs. -/
theorem onInput_cmds (body : List Micro) (e : Input) (s : State) :
    (onInput body e s).cmds = s.cmds ++ presented [e] := by
  cases e with
  | rst => simp [onInput, presented]
  | cmd w => simp [onInput, presented]
  | take => simp [onInput, presented]
  | ticks count =>
    rcases onTicks_cases body count s with heq | ⟨n, rest, _, _, _, heq⟩ | ⟨n, rest, _, _, _, heq⟩ <;>
      simp [onInput, presented, heq, runFrom_frame]
  | tx ok err rdata =>
    rcases onAnswer_cases body ok err rdata s with
        ⟨_, heq⟩ | ⟨q, _, _, heq⟩ | ⟨q, _, _, _, heq⟩ | ⟨q, m, rest, _, _, _, heq⟩ <;>
      simp [onInput, presented, heq, runFrom_frame]

/-- The words of two lists of inputs. -/
theorem presented_cons (e : Input) (es : List Input) : presented (e :: es) = presented [e] ++ presented es := by
  cases e <;> simp [presented]

/-- A running command takes inputs from the front, and the words among them join the queue. -/
theorem drive_takes_front (body : List Micro) (es : List Input) (s : State) :
    ∃ used, es = used ++ (drive body es s).inputs ∧ (drive body es s).cmds = s.cmds ++ presented used := by
  induction es generalizing s with
  | nil => exact ⟨[], by simp [presented]⟩
  | cons e es ih =>
    cases hop : s.seq.op with
    | none => exact ⟨[], by simp [drive_idle _ _ _ hop, presented]⟩
    | some op =>
      rw [drive_busy body e es s op hop]
      obtain ⟨used, hes, hcmds⟩ := ih (onInput body e s)
      refine ⟨e :: used, congrArg (e :: ·) hes, ?_⟩
      rw [hcmds, onInput_cmds, presented_cons e used, List.append_assoc]

/-- So does a step that takes the next input. -/
theorem idleStep_takes_front (s : State) :
    ∃ used, s.inputs = used ++ (idleStep s).inputs ∧ (idleStep s).cmds = s.cmds ++ presented used := by
  cases h : s.inputs with
  | nil => exact ⟨[], by simp [idleStep, h, presented]⟩
  | cons e es => exact ⟨[e], by cases e <;> simp [idleStep, idleInput, h, presented]⟩

/-- Settles O8: a running command and an RSEQ with a pending response take inputs only. -/
theorem presentedCommandsWait : Obligations.PresentedCommandsWait := by
  intro s t hbusy hstep
  cases hop : s.seq.op with
  | some op =>
    have heq : step s = .next (resume op s) := by simp [step, hop]
    cases heq.symm.trans hstep
    exact drive_takes_front _ _ s
  | none =>
    have heq := step_of_pending s hop (hbusy.resolve_left (by simp [hop]))
    cases heq.symm.trans hstep
    exact idleStep_takes_front s

/-! ### Without an answer (R64, R280) -/

/-- Neither an answer of the transport nor a reset. -/
def Input.Silent (e : Input) : Prop := e.isTx = false ∧ e.isRst = false

/-- The silent inputs are the presented words, `rsp_ready` and the strobes. -/
theorem Input.Silent.cases {e : Input} (h : e.Silent) :
    (∃ w, e = .cmd w) ∨ e = .take ∨ ∃ count, e = .ticks count := by
  cases e with
  | rst => exact absurd h.2 (by simp [Input.isRst])
  | cmd w => exact .inl ⟨w, rfl⟩
  | take => exact .inr (.inl rfl)
  | ticks count => exact .inr (.inr ⟨count, rfl⟩)
  | tx ok err rdata => exact absurd h.1 (by simp [Input.isTx])

/-- `t` is `s` with this timer and no response, but for the words and the inputs of the host. -/
def StandsStill (s : State) (timer : Nat) (t : State) : Prop :=
  t.regs = s.regs ∧ t.seq = { s.seq with timer := timer } ∧ t.tx = s.tx ∧ t.rsp = none ∧ t.trace = s.trace

/-- A silent input leaves a command in its transaction. -/
theorem onInput_silent_of_tx (body : List Micro) (e : Input) (s : State) (q : TxReq) (he : e.Silent)
    (htx : s.tx = some q) (hrsp : s.rsp = none) : StandsStill s s.seq.timer (onInput body e s) := by
  rcases he.cases with ⟨w, rfl⟩ | rfl | ⟨count, rfl⟩
  · exact ⟨rfl, rfl, rfl, hrsp, rfl⟩
  · exact ⟨rfl, rfl, rfl, rfl, rfl⟩
  · have heq : onTicks body count s = s := by simp [onTicks, htx]
    rw [onInput, heq]
    exact ⟨rfl, rfl, rfl, hrsp, rfl⟩

/-- Settles O10: every silent input leaves the request and the rest of RSEQ as they are. -/
theorem unansweredTransactionIsHeld : Obligations.UnansweredTransactionIsHeld := by
  intro s t q hbusy htx hrsp hsilent hstep
  obtain ⟨op, hop⟩ := Option.ne_none_iff_exists'.mp hbusy
  have heq : step s = .next (resume op s) := by simp [step, hop]
  cases heq.symm.trans hstep
  have hstill : StandsStill s s.seq.timer (resume op s) := by
    refine drive_keeps_of_mem _ (StandsStill s s.seq.timer) Input.Silent (fun _ _ h => h) ?_ s.inputs hsilent s
      ⟨rfl, rfl, rfl, hrsp, rfl⟩
    rintro e u _ he _ ⟨hregs, hseq, hutx, hursp, htrace⟩
    obtain ⟨hregs', hseq', htx', hrsp', htrace'⟩ := onInput_silent_of_tx _ e u q he (hutx.trans htx) hursp
    exact ⟨hregs'.trans hregs, hseq'.trans hseq, htx'.trans hutx, hrsp', htrace'.trans htrace⟩
  obtain ⟨hregs, hseq, htx', hrsp', htrace⟩ := hstill
  exact ⟨hregs, hseq, htx'.trans htx, hrsp', htrace⟩

/-- In a Wait that it does not count out, a silent input only adds its strobes to the timer. -/
theorem onInput_silent_of_wait (body : List Micro) (e : Input) (s : State) (n : Nat) (rest : List Micro) (he : e.Silent)
    (htx : s.tx = none) (hrsp : s.rsp = none) (hdrop : body.drop s.seq.pos = .wait n :: rest)
    (hlt : s.seq.timer + strobes [e] < n) : StandsStill s (s.seq.timer + strobes [e]) (onInput body e s) := by
  rcases he.cases with ⟨w, rfl⟩ | rfl | ⟨count, rfl⟩
  · exact ⟨rfl, rfl, rfl, hrsp, rfl⟩
  · exact ⟨rfl, rfl, rfl, rfl, rfl⟩
  · have hlt' : ¬n ≤ s.seq.timer + count := by simpa [strobes] using hlt
    have heq : onTicks body count s = { s with seq := { s.seq with timer := s.seq.timer + count } } := by
      simp [onTicks, htx, hdrop, hlt']
    rw [onInput, heq]
    exact ⟨rfl, rfl, rfl, hrsp, rfl⟩

/-- A Wait that silent inputs do not count out only counts their strobes. -/
theorem drive_silent_of_wait (body : List Micro) (es : List Input) (s : State) (op : Opcode) (n : Nat)
    (rest : List Micro) (hes : ∀ e ∈ es, e.Silent) (hop : s.seq.op = some op) (htx : s.tx = none) (hrsp : s.rsp = none)
    (hdrop : body.drop s.seq.pos = .wait n :: rest) (hlt : s.seq.timer + strobes es < n) :
    StandsStill s (s.seq.timer + strobes es) (drive body es s) := by
  induction es generalizing s with
  | nil => exact ⟨rfl, rfl, rfl, hrsp, rfl⟩
  | cons e es ih =>
    obtain ⟨he, hes⟩ := List.forall_mem_cons.mp hes
    have hsum : strobes (e :: es) = strobes [e] + strobes es := strobes_append [e] es
    obtain ⟨hregs, hseq, htx', hrsp', htrace⟩ :=
      onInput_silent_of_wait body e s n rest he htx hrsp hdrop (by omega)
    have ih := ih (onInput body e s) hes (by rw [hseq]; exact hop) (htx'.trans htx) hrsp' (by rw [hseq]; exact hdrop)
      (by rw [hseq]; simp only; omega)
    rw [drive_busy body e es s op hop, hsum]
    simpa only [StandsStill, hregs, hseq, htx', htrace, Nat.add_assoc] using ih

/-- Settles O11: by induction on the inputs, each of which adds its strobes to the timer. -/
theorem waitOnlyCountsStrobes : Obligations.WaitOnlyCountsStrobes := by
  intro s t op n hop htx hrsp hmicro hsilent hlt hstep
  have heq : step s = .next (resume op s) := by simp [step, hop]
  cases heq.symm.trans hstep
  obtain ⟨hpos, hget⟩ := List.getElem?_eq_some_iff.mp hmicro
  obtain ⟨hregs, hseq, htx', hrsp', htrace⟩ := drive_silent_of_wait _ s.inputs s op n _ hsilent hop htx hrsp
    (by rw [List.drop_eq_getElem_cons hpos, hget]) hlt
  exact ⟨hregs, hseq, htx'.trans htx, hrsp', htrace⟩

/-! ### One response per command (R45) -/

/-- The responses of two records. -/
@[simp] theorem responses_append (os ps : List Obs) : responses (os ++ ps) = responses os ++ responses ps := by
  induction os with
  | nil => rfl
  | cons o os ih => cases o <;> simp [responses, ih]

/-- The command is still running with no response since `past`. -/
def Unanswered (op : Opcode) (past : List Response) (t : State) : Prop :=
  t.seq.op = some op ∧ t.rsp = none ∧ responses t.trace = past

/-- The command has ended with one response since `past`, which is pending, or is still running with none. -/
def AnsweredOnce (op : Opcode) (past : List Response) (t : State) : Prop :=
  (t.seq.op = none ∧ ∃ r, t.rsp = some r ∧ responses t.trace = past ++ [r]) ∨ Unanswered op past t

/-- A running command has not responded. -/
theorem AnsweredOnce.unanswered {op : Opcode} {past : List Response} {t : State} (h : AnsweredOnce op past t)
    (hop : t.seq.op = some op) : Unanswered op past t := by
  rcases h with ⟨hnone, _⟩ | h
  · rw [hnone] at hop
    contradiction
  · exact h

/-- A response ends the command. -/
theorem answeredOnce_emit {op : Opcode} {past : List Response} {t : State} (r : Response) (h : Unanswered op past t) :
    AnsweredOnce op past (t.emit r) := by
  obtain ⟨_, _, hpast⟩ := h
  exact .inl ⟨rfl, r, rfl, by simp [responses, hpast]⟩

/-- Micro-steps respond at most once. -/
theorem runFrom_answeredOnce (ms : List Micro) (s : State) (op : Opcode) (past : List Response)
    (h : Unanswered op past s) : AnsweredOnce op past (runFrom ms s) := by
  induction ms generalizing s with
  | nil => exact .inr h
  | cons m ms ih =>
    cases m with
    | update f => exact ih _ h
    | respond f => exact answeredOnce_emit _ h
    | _ => exact .inr ⟨h.1, h.2.1, by simp [responses, h.2.2]⟩

/-- Every move of a running command but a reset responds at most once. -/
theorem keptWhileRunning_answeredOnce (op : Opcode) (a b : Int) (past : List Response) :
    KeptWhileRunning op a b (AnsweredOnce op past) where
  inputs _ _ h := h
  cmds _ _ h := h
  take _ hrun h :=
    have ⟨hop, _, hpast⟩ := h.unanswered hrun.1
    .inr ⟨hop, rfl, hpast⟩
  counts _ _ _ _ _ _ _ _ h := h
  waitEnds _ _ rest _ hrun _ _ h := runFrom_answeredOnce rest _ op past (h.unanswered hrun.1)
  fails s q err rdata hrun _ h := by
    obtain ⟨_, _, hpast⟩ := h.unanswered hrun.1
    exact .inl ⟨rfl, _, rfl, by simp [responses, hpast]⟩
  answeredAtEnd s q err rdata hrun _ _ h := by
    obtain ⟨hop, hrsp, hpast⟩ := h.unanswered hrun.1
    exact .inr ⟨hop, hrsp, by simp [responses, hpast]⟩
  answers s q m rest err rdata hrun _ _ h := by
    obtain ⟨hop, hrsp, hpast⟩ := h.unanswered hrun.1
    exact runFrom_answeredOnce rest _ op past ⟨hop, hrsp, by simp [responses, hpast]⟩

/-- What a command keeps from its acceptance on, with no reset among the inputs. -/
theorem exec_keeps (i : Instr) (P : State → Prop)
    (hP : KeptWhileRunning i.opcode (commandArgs i).1 (commandArgs i).2 P) (s t : State)
    (hrst : ∀ e ∈ s.inputs, e.isRst = false) (hrefuse : ∀ c, P (s.raise c))
    (haccept : P (runFrom (bodyOf i.opcode (commandArgs i).1 (commandArgs i).2)
      (s.accept i.opcode (commandArgs i).1 (commandArgs i).2)))
    (hexec : exec i s = .next t) : P t := by
  rcases exec_cases i s with ⟨c, heq⟩ | heq <;> cases heq.symm.trans hexec
  · exact hrefuse c
  · exact hP.drive s.inputs (fun e he h => absurd h (by simp [hrst e he])) _
      (runFrom_idleOrRuns _ _ _ _ _ (s.accept_runs _ _ _)) haccept

/-- Settles O17: a refusal is a response, and an accepted command responds at most once, when it ends. -/
theorem oneResponsePerCommand : Obligations.OneResponsePerCommand := by
  intro i s t _ hrsp hrst hexec
  exact exec_keeps i (AnsweredOnce i.opcode (responses s.trace)) (keptWhileRunning_answeredOnce _ _ _ _) s t hrst
    (fun c => .inl ⟨rfl, _, rfl, by simp [responses]⟩) (runFrom_answeredOnce _ _ _ _ ⟨rfl, hrsp, rfl⟩) hexec

end Sys2Proof.Machine
end

section
/-! PROOFS. Writers: which command may change which shadow slot and which derived field (R21, R27 to R35, R38 to
R42). -/

namespace Sys2Proof.Machine

open Sys2Proof

/-- With no reset among the inputs a command other than INIT keeps what its micro-steps keep of the register files. -/
theorem exec_keeps_regs (i : Instr) (Q : Regs → Prop)
    (hbody : ∀ m ∈ bodyOf i.opcode (commandArgs i).1 (commandArgs i).2, m.Keeps Q) (hinit : i.opcode ≠ .init)
    (s t : State) (hop : s.seq.op = none) (hrst : ∀ e ∈ s.inputs, e.isRst = false) (h : Q s.regs)
    (hexec : exec i s = .next t) : Q t.regs := by
  refine exec_keeps i (fun s => Q s.regs)
    (keptWhileRunning_regs Q _ _ _ hbody fun heq => absurd heq hinit) s t hrst (fun c => ?_)
    (runFrom_keeps_regs Q _ hbody _ h) hexec
  rw [State.raise_regs_of_ne_init s c (by simp [hop])]
  exact h

/-! ### Shadow slots -/

/-- The slots a command writes; INIT's `reset_state()` writes them all. -/
def writtenSlots : Opcode → List Slot
  | .init => List.finRange 16
  | .term => [Config.CTRL, Config.VOL]
  | .setfreq => [Config.CTRL, Config.CHAN, Config.RA, Config.RB]
  | .getfreq => [Config.RA, Config.RB]
  | .formatfreq => []
  | .setbass => [Config.CTRL]
  | .setmono => [Config.CTRL]
  | .setmute => [Config.CTRL]
  | .setsoftmute => [Config.R4]
  | .setvolume => [Config.VOL]
  | .setband => [Config.CHAN]
  | .seekup => [Config.CTRL, Config.RA, Config.RB]
  | .seekdown => [Config.CTRL, Config.RA, Config.RB]
  | .softreset => [Config.CTRL]
  | .getrssi => [Config.RB]
  | .getradioinfo => [Config.RA, Config.RB]

/-- Every slot that is not among `w` reads as in `r₀`. -/
def SlotsKept (w : List Slot) (r₀ r : Regs) : Prop := ∀ a : Slot, a ∉ w → r.x[a] = r₀.x[a]

/-- A write of a slot among `w` leaves the others. -/
theorem SlotsKept.setSlot {w : List Slot} {r₀ r : Regs} (h : SlotsKept w r₀ r) {a : Slot} (v : Word) (ha : a ∈ w) :
    SlotsKept w r₀ (r.setSlot a v) := by
  intro c hc
  rw [Regs.setSlot_other r a c v (fun heq => hc (heq ▸ ha))]
  exact h c hc

section
variable (w : List Slot) (r₀ : Regs)

theorem keeps_slotsKept_of_x {f : Regs → Regs} (hf : ∀ r, (f r).x = r.x) : (Micro.update f).Keeps (SlotsKept w r₀) :=
  fun r h c hc => by rw [hf r]; exact h c hc

theorem keeps_slotsKept_resetState : (Micro.update resetState).Keeps (SlotsKept (List.finRange 16) r₀) :=
  fun _ _ c hc => absurd (List.mem_finRange c) hc

theorem keeps_slotsKept_setSlot {a : Slot} (v : Word) (ha : a ∈ w) :
    (Micro.update fun r => r.setSlot a v).Keeps (SlotsKept w r₀) := fun _ h => h.setSlot v ha

theorem keeps_slotsKept_setBits {a : Slot} (m : Word) (ha : a ∈ w) :
    (Micro.update fun r => r.setBits a m).Keeps (SlotsKept w r₀) := fun _ h => h.setSlot _ ha

theorem keeps_slotsKept_clearBits {a : Slot} (m : Word) (ha : a ∈ w) :
    (Micro.update fun r => r.clearBits a m).Keeps (SlotsKept w r₀) := fun _ h => h.setSlot _ ha

theorem keeps_slotsKept_toggleBits {a : Slot} (m : Word) (b : Bool) (ha : a ∈ w) :
    (Micro.update fun r => r.toggleBits a m b).Keeps (SlotsKept w r₀) := by
  cases b
  · exact keeps_slotsKept_clearBits w r₀ m ha
  · exact keeps_slotsKept_setBits w r₀ m ha

theorem keeps_slotsKept_setVolField (v : BitVec 4) (ha : Config.VOL ∈ w) :
    (Micro.update (Regs.setVolField v)).Keeps (SlotsKept w r₀) := fun _ h => h.setSlot _ ha

theorem keeps_slotsKept_readReg {a : Slot} (ha : a ∈ w) : (Micro.readReg a).Keeps (SlotsKept w r₀) :=
  fun _ v h => h.setSlot v ha

theorem keeps_slotsKept_readSeq (hra : Config.RA ∈ w) (hrb : Config.RB ∈ w) : Micro.readSeq.Keeps (SlotsKept w r₀) :=
  fun _ _ h => (h.setSlot _ hra).setSlot _ hrb

end

/-- Every micro-step of a command writes only slots of `writtenSlots`. -/
theorem bodyOf_keeps_slots (op : Opcode) (a b : Int) (r₀ : Regs) :
    ∀ m ∈ bodyOf op a b, m.Keeps (SlotsKept (writtenSlots op) r₀) := by
  cases op <;>
    simp -implicitDefEqProofs [writtenSlots, keeps_slotsKept_of_x, keeps_slotsKept_resetState, keeps_slotsKept_setSlot,
      keeps_slotsKept_setBits, keeps_slotsKept_clearBits, keeps_slotsKept_toggleBits, keeps_slotsKept_setVolField,
      keeps_slotsKept_readReg, keeps_slotsKept_readSeq]

/-- Which commands other than INIT write which slot, read off `writtenSlots`. -/
theorem writers_of_slots (op : Opcode) (hinit : op ≠ .init) :
    (op ∉ [.setfreq, .setbass, .setmono, .setmute, .seekup, .seekdown, .softreset, .term] →
      Config.CTRL ∉ writtenSlots op) ∧
    (op ∉ [.setfreq, .setband] → Config.CHAN ∉ writtenSlots op) ∧
    (op ≠ .setsoftmute → Config.R4 ∉ writtenSlots op) ∧
    (op ∉ [.setvolume, .term] → Config.VOL ∉ writtenSlots op) ∧
    (op ∉ [.setfreq, .getfreq, .seekup, .seekdown, .getradioinfo] → Config.RA ∉ writtenSlots op) ∧
    (op ∉ [.setfreq, .getfreq, .seekup, .seekdown, .getradioinfo, .getrssi] → Config.RB ∉ writtenSlots op) ∧
    ∀ a : Slot, a ∉ [0x2, 0x3, 0x4, 0x5, 0xA, 0xB] → a ∉ writtenSlots op := by
  cases op
  case init => exact absurd rfl hinit
  all_goals exact ⟨by decide, by decide, by decide, by decide, by decide, by decide, by decide⟩

/-- Settles O43: a command other than INIT leaves every slot outside its `writtenSlots` alone. -/
theorem shadowSlotsHaveTheirWriters : Obligations.ShadowSlotsHaveTheirWriters := by
  intro i s t hop hrst hexec hinit
  have hkept : SlotsKept (writtenSlots i.opcode) s.regs t.regs :=
    exec_keeps_regs i (SlotsKept (writtenSlots i.opcode) s.regs) (bodyOf_keeps_slots _ _ _ _) hinit s t hop hrst
      (fun _ _ => rfl) hexec
  obtain ⟨hctrl, hchan, hr4, hvol, hra, hrb, hother⟩ := writers_of_slots i.opcode hinit
  exact ⟨fun h => hkept _ (hctrl h), fun h => hkept _ (hchan h), fun h => hkept _ (hr4 h), fun h => hkept _ (hvol h),
    fun h => hkept _ (hra h), fun h => hkept _ (hrb h), fun a h => hkept a (hother a h)⟩

/-! ### Derived fields and `life` -/

/-- The fields of the derived-state register file, and `life`. -/
inductive RegField where
  | frequency | volume | bassBoost | mute | softMute | mono | rds | tuned | band | rssi | life

/-- The field has one value in both register files. -/
def RegField.Same (r₀ r : Regs) : RegField → Prop
  | .frequency => r.d.frequency = r₀.d.frequency
  | .volume => r.d.volume = r₀.d.volume
  | .bassBoost => r.d.bassBoost = r₀.d.bassBoost
  | .mute => r.d.mute = r₀.d.mute
  | .softMute => r.d.softMute = r₀.d.softMute
  | .mono => r.d.mono = r₀.d.mono
  | .rds => r.d.rds = r₀.d.rds
  | .tuned => r.d.tuned = r₀.d.tuned
  | .band => r.d.band = r₀.d.band
  | .rssi => r.d.rssi = r₀.d.rssi
  | .life => r.life = r₀.life

theorem RegField.Same.refl (r : Regs) (f : RegField) : f.Same r r := by
  cases f <;> rfl

theorem RegField.Same.trans {r₀ r₁ r₂ : Regs} {f : RegField} (h : f.Same r₀ r₁) (h' : f.Same r₁ r₂) :
    f.Same r₀ r₂ := by
  cases f <;> exact Eq.trans h' h

/-- The fields a command other than INIT writes. -/
def writtenFields : Opcode → List RegField
  | .init => []
  | .term => [.volume, .life]
  | .setfreq => [.frequency]
  | .getfreq => [.frequency]
  | .formatfreq => []
  | .setbass => [.bassBoost]
  | .setmono => [.mono]
  | .setmute => [.mute]
  | .setsoftmute => [.softMute]
  | .setvolume => [.volume]
  | .setband => [.band]
  | .seekup => [.frequency]
  | .seekdown => [.frequency]
  | .softreset => []
  | .getrssi => [.rssi]
  | .getradioinfo => [.rds, .tuned, .mono, .rssi]

/-- Every field that is not among `w` is as in `r₀`. -/
def FieldsKept (w : List RegField) (r₀ r : Regs) : Prop := ∀ f : RegField, f ∉ w → f.Same r₀ r

section
variable (w : List RegField) (r₀ : Regs)

/-- An update of one field among `w`. -/
theorem keeps_fieldsKept_of_one {g : Regs → Regs} {f₀ : RegField} (hw : f₀ ∈ w)
    (hg : ∀ (r : Regs) (f : RegField), f ≠ f₀ → f.Same r (g r)) : (Micro.update g).Keeps (FieldsKept w r₀) :=
  fun r h f hf => (h f hf).trans (hg r f fun heq => hf (heq ▸ hw))

/-- An update of slots only. -/
theorem keeps_fieldsKept_slots {g : Regs → Regs} (hd : ∀ r, (g r).d = r.d) (hlife : ∀ r, (g r).life = r.life) :
    (Micro.update g).Keeps (FieldsKept w r₀) :=
  fun r h f hf => (h f hf).trans (by cases f <;> simp [RegField.Same, hd, hlife])

theorem keeps_fieldsKept_readReg (a : Slot) : (Micro.readReg a).Keeps (FieldsKept w r₀) :=
  fun _ _ h f hf => (h f hf).trans (by cases f <;> rfl)

theorem keeps_fieldsKept_readSeq : Micro.readSeq.Keeps (FieldsKept w r₀) :=
  fun _ _ h f hf => (h f hf).trans (by cases f <;> rfl)

theorem keeps_fieldsKept_setBassBoost (b : Bool) (hw : .bassBoost ∈ w) :
    (Micro.update (Regs.setBassBoost b)).Keeps (FieldsKept w r₀) :=
  keeps_fieldsKept_of_one w r₀ hw fun r g hg => by cases g <;> simp_all [RegField.Same]

theorem keeps_fieldsKept_setMono (b : Bool) (hw : .mono ∈ w) :
    (Micro.update (Regs.setMono b)).Keeps (FieldsKept w r₀) :=
  keeps_fieldsKept_of_one w r₀ hw fun r g hg => by cases g <;> simp_all [RegField.Same]

theorem keeps_fieldsKept_setMute (b : Bool) (hw : .mute ∈ w) :
    (Micro.update (Regs.setMute b)).Keeps (FieldsKept w r₀) :=
  keeps_fieldsKept_of_one w r₀ hw fun r g hg => by cases g <;> simp_all [RegField.Same]

theorem keeps_fieldsKept_setSoftMute (b : Bool) (hw : .softMute ∈ w) :
    (Micro.update (Regs.setSoftMute b)).Keeps (FieldsKept w r₀) :=
  keeps_fieldsKept_of_one w r₀ hw fun r g hg => by cases g <;> simp_all [RegField.Same]

theorem keeps_fieldsKept_setVolume (v : BitVec 4) (hw : .volume ∈ w) :
    (Micro.update (Regs.setVolume v)).Keeps (FieldsKept w r₀) :=
  keeps_fieldsKept_of_one w r₀ hw fun r g hg => by cases g <;> simp_all [RegField.Same]

theorem keeps_fieldsKept_setBand (band : Band) (hw : .band ∈ w) :
    (Micro.update (Regs.setBand band)).Keeps (FieldsKept w r₀) :=
  keeps_fieldsKept_of_one w r₀ hw fun r g hg => by cases g <;> simp_all [RegField.Same]

theorem keeps_fieldsKept_setLife (l : Life) (hw : .life ∈ w) :
    (Micro.update (Regs.setLife l)).Keeps (FieldsKept w r₀) :=
  keeps_fieldsKept_of_one w r₀ hw fun r g hg => by cases g <;> simp_all [RegField.Same]

theorem keeps_fieldsKept_readbackFrequency (hw : .frequency ∈ w) :
    (Micro.update Regs.readbackFrequency).Keeps (FieldsKept w r₀) :=
  keeps_fieldsKept_of_one w r₀ hw fun r g hg => by cases g <;> simp_all [RegField.Same]

theorem keeps_fieldsKept_readbackRssi (hw : .rssi ∈ w) :
    (Micro.update Regs.readbackRssi).Keeps (FieldsKept w r₀) :=
  keeps_fieldsKept_of_one w r₀ hw fun r g hg => by cases g <;> simp_all [RegField.Same]

theorem keeps_fieldsKept_readbackRds (hw : .rds ∈ w) :
    (Micro.update Regs.readbackRds).Keeps (FieldsKept w r₀) :=
  keeps_fieldsKept_of_one w r₀ hw fun r g hg => by cases g <;> simp_all [RegField.Same]

theorem keeps_fieldsKept_readbackTuned (hw : .tuned ∈ w) :
    (Micro.update Regs.readbackTuned).Keeps (FieldsKept w r₀) :=
  keeps_fieldsKept_of_one w r₀ hw fun r g hg => by cases g <;> simp_all [RegField.Same]

theorem keeps_fieldsKept_readbackMono (hw : .mono ∈ w) :
    (Micro.update Regs.readbackMono).Keeps (FieldsKept w r₀) :=
  keeps_fieldsKept_of_one w r₀ hw fun r g hg => by cases g <;> simp_all [RegField.Same]

end

@[simp] theorem Regs.setVolField_d (v : BitVec 4) (r : Regs) : (Regs.setVolField v r).d = r.d := rfl
@[simp] theorem Regs.setVolField_life (v : BitVec 4) (r : Regs) : (Regs.setVolField v r).life = r.life := rfl

/-- Every micro-step of a command other than INIT writes only fields of `writtenFields`. -/
theorem bodyOf_keeps_fields (op : Opcode) (a b : Int) (r₀ : Regs) (hinit : op ≠ .init) :
    ∀ m ∈ bodyOf op a b, m.Keeps (FieldsKept (writtenFields op) r₀) := by
  cases op
  case init => exact absurd rfl hinit
  all_goals
    simp -implicitDefEqProofs [writtenFields, keeps_fieldsKept_slots, keeps_fieldsKept_readReg,
      keeps_fieldsKept_readSeq, keeps_fieldsKept_setBassBoost, keeps_fieldsKept_setMono, keeps_fieldsKept_setMute,
      keeps_fieldsKept_setSoftMute, keeps_fieldsKept_setVolume, keeps_fieldsKept_setBand, keeps_fieldsKept_setLife,
      keeps_fieldsKept_readbackFrequency, keeps_fieldsKept_readbackRssi, keeps_fieldsKept_readbackRds,
      keeps_fieldsKept_readbackTuned, keeps_fieldsKept_readbackMono]

/-- Which commands other than INIT write which field, read off `writtenFields`. -/
theorem writers_of_fields (op : Opcode) (hinit : op ≠ .init) :
    (op ∉ [.setfreq, .getfreq, .seekup, .seekdown] → .frequency ∉ writtenFields op) ∧
    (op ∉ [.setvolume, .term] → .volume ∉ writtenFields op) ∧
    (op ≠ .setbass → .bassBoost ∉ writtenFields op) ∧
    (op ≠ .setmute → .mute ∉ writtenFields op) ∧
    (op ≠ .setsoftmute → .softMute ∉ writtenFields op) ∧
    (op ∉ [.setmono, .getradioinfo] → .mono ∉ writtenFields op) ∧
    (op ≠ .getradioinfo → .rds ∉ writtenFields op ∧ .tuned ∉ writtenFields op) ∧
    (op ≠ .setband → .band ∉ writtenFields op) ∧
    (op ∉ [.getrssi, .getradioinfo] → .rssi ∉ writtenFields op) ∧
    (op ≠ .term → .life ∉ writtenFields op) := by
  cases op
  case init => exact absurd rfl hinit
  all_goals simp [writtenFields]

/-- Settles O42: a command other than INIT leaves every field outside its `writtenFields` alone. -/
theorem derivedFieldsHaveTheirWriters : Obligations.DerivedFieldsHaveTheirWriters := by
  intro i s t hop hrst hexec hinit
  have hkept : FieldsKept (writtenFields i.opcode) s.regs t.regs :=
    exec_keeps_regs i (FieldsKept (writtenFields i.opcode) s.regs) (bodyOf_keeps_fields _ _ _ _ hinit) hinit s t hop
      hrst (fun f _ => .refl _ f) hexec
  obtain ⟨hfreq, hvolume, hbass, hmute, hsoft, hmono, hrdsTuned, hband, hrssi, hlife⟩ :=
    writers_of_fields i.opcode hinit
  exact ⟨fun h => hkept .frequency (hfreq h), fun h => hkept .volume (hvolume h), fun h => hkept .bassBoost (hbass h),
    fun h => hkept .mute (hmute h), fun h => hkept .softMute (hsoft h), fun h => hkept .mono (hmono h),
    fun h => ⟨hkept .rds (hrdsTuned h).1, hkept .tuned (hrdsTuned h).2⟩, fun h => hkept .band (hband h),
    fun h => hkept .rssi (hrssi h), fun h => hkept .life (hlife h)⟩

end Sys2Proof.Machine
end

section
/-! PROOFS. Answered runs: what a command does when the transport answers every request and the strobes count every Wait
out (R64, R73, R280), and INIT (R51, R120 to R123). -/

namespace Sys2Proof.Machine

open Sys2Proof

/-! ### A run in which everything is answered -/

/-- The request a micro-step issues, if it is a transaction (R61 to R63). -/
def Micro.request (r : Regs) : Micro → Option TxReq
  | .writeReg a => some (r.writeRequest a)
  | .readReg a => some (readRequest a)
  | .readSeq => some burstRequest
  | .update _ => none
  | .wait _ => none
  | .respond _ => none

/-- A transaction issues its request. -/
theorem runFrom_request {m : Micro} {s : State} {q : TxReq} (ms : List Micro) (h : m.request s.regs = some q) :
    runFrom (m :: ms) s = s.issue q := by
  cases m <;> simp_all [Micro.request]

/-- The micro-steps `ms`, from the register files `r` on, complete on the inputs `es`: each transaction is answered at
once and each Wait is counted out. They issue `n` transactions, are observed as `seen`, leave the register files `r'`,
respond with `res`, and leave `rest` of the inputs. -/
inductive Serves : List Micro → Regs → List Input → Nat → List Obs → Regs → Result → List Input → Prop where
  | respond {f : Regs → Result} {ms : List Micro} {r r' : Regs} {res : Result} {rest : List Input} (hr : r = r')
    (hf : f r' = res) : Serves (.respond f :: ms) r rest 0 [] r' res rest
  | update {f : Regs → Regs} {ms : List Micro} {r r' : Regs} {es rest : List Input} {n : Nat} {seen : List Obs}
    {res : Result} (h : Serves ms (f r) es n seen r' res rest) : Serves (.update f :: ms) r es n seen r' res rest
  | answered {m : Micro} {q : TxReq} {ms : List Micro} {r r' : Regs} {e : BitVec 2} {d : BitVec 32}
    {es rest : List Input} {n : Nat} {seen : List Obs} {res : Result} (hq : m.request r = some q)
    (h : Serves ms (m.store d r) es n seen r' res rest) :
    Serves (m :: ms) r (.tx true e d :: es) (n + 1) (.tx q :: .answer true e d :: seen) r' res rest
  | waited {bound k : Nat} {ks : List Nat} {ms : List Micro} {r r' : Regs} {es rest : List Input} {n : Nat}
    {seen : List Obs} {res : Result} (hlt : ks.sum < bound) (hle : bound ≤ ks.sum + k)
    (h : Serves ms r es n seen r' res rest) :
    Serves (.wait bound :: ms) r (ks.map .ticks ++ .ticks k :: es) n (.wait bound :: seen) r' res rest

/-- The state `t` in which a command that stood in `s` has completed, `n` transactions later. -/
structure CompletedFrom (s : State) (n : Nat) (seen : List Obs) (regs : Regs) (res : Result) (rest : List Input)
    (t : State) : Prop where
  regs : t.regs = regs
  rsp : t.rsp = some (okResponse res)
  op : t.seq.op = none
  step : t.seq.step = s.seq.step + BitVec.ofNat 8 n
  tx : t.tx = none
  cmds : t.cmds = s.cmds
  inputs : t.inputs = rest
  trace : t.trace = s.trace ++ seen ++ [.rsp (okResponse res)]

/-- A command has completed from `s` too, if `s'` is `k` transactions and the record `before` later. -/
theorem CompletedFrom.of_later {s s' t : State} {n : Nat} {seen : List Obs} {regs : Regs} {res : Result}
    {rest : List Input} (h : CompletedFrom s' n seen regs res rest t) (k : Nat) (before : List Obs)
    (hstep : s'.seq.step = s.seq.step + BitVec.ofNat 8 k) (hcmds : s'.cmds = s.cmds)
    (htrace : s'.trace = s.trace ++ before) : CompletedFrom s (n + k) (before ++ seen) regs res rest t where
  regs := h.regs
  rsp := h.rsp
  op := h.op
  step := by rw [h.step, hstep, BitVec.add_assoc, ← BitVec.ofNat_add, Nat.add_comm k n]
  tx := h.tx
  cmds := h.cmds.trans hcmds
  inputs := h.inputs
  trace := by rw [h.trace, htrace, List.append_assoc s.trace]

/-- Behind the answer of the request in flight the command goes on. -/
theorem drive_answered (body : List Micro) (s : State) (op : Opcode) (q : TxReq) (m : Micro) (ms : List Micro)
    (e : BitVec 2) (d : BitVec 32) (es : List Input) (hop : s.seq.op = some op) (htx : s.tx = some q)
    (hdrop : body.drop s.seq.pos = m :: ms) :
    drive body (.tx true e d :: es) s = drive body es (runFrom ms ((s.observe (.answer true e d)).answered m d)) := by
  rw [drive_busy body _ es s op hop]
  simp [onInput, onAnswer, htx, hdrop]

/-- Behind the strobe that counts a Wait out the command goes on. -/
theorem drive_waitEnds (body : List Micro) (s : State) (op : Opcode) (bound k : Nat) (ks : List Nat) (ms : List Micro)
    (es : List Input) (hop : s.seq.op = some op) (htx : s.tx = none) (hdrop : body.drop s.seq.pos = .wait bound :: ms)
    (htimer : s.seq.timer = 0) (hlt : ks.sum < bound) (hle : bound ≤ ks.sum + k) :
    drive body (ks.map .ticks ++ .ticks k :: es) s =
      drive body es (runFrom ms { s with seq := { s.seq with timer := ks.sum + k, pos := s.seq.pos + 1 } }) := by
  rw [drive_waiting body ks _ s op bound ms hop htx hdrop (by omega), drive_busy body _ es _ op (by exact hop)]
  simp [onInput, onTicks, htx, hdrop, htimer, hle]

/-- A command that is served completes. -/
theorem Serves.completedFrom {body ms : List Micro} {r r' : Regs} {es rest : List Input} {n : Nat} {seen : List Obs}
    {res : Result} (h : Serves ms r es n seen r' res rest) (s : State) (op : Opcode) (hop : s.seq.op = some op)
    (htx : s.tx = none) (hregs : s.regs = r) (hdrop : body.drop s.seq.pos = ms) :
    CompletedFrom s n seen r' res rest (drive body es (runFrom ms s)) := by
  induction h generalizing s with
  | respond hr hf =>
    subst hregs hr hf
    rw [runFrom_respond, drive_idle _ _ _ rfl]
    exact ⟨rfl, rfl, rfl, by simp, rfl, rfl, rfl, by simp⟩
  | @update f ms _ _ _ _ _ _ _ _ ih =>
    subst hregs
    rw [runFrom_update]
    exact (ih { s with regs := f s.regs, seq := { s.seq with pos := s.seq.pos + 1 } } hop htx rfl
      (drop_succ_of_drop_eq_cons hdrop)).of_later 0 [] (by simp) rfl (by simp)
  | @answered m q ms _ _ e d es _ _ _ _ hq _ ih =>
    subst hregs
    rw [runFrom_request ms hq, drive_answered body (s.issue q) op q m ms e d es hop rfl hdrop]
    exact (ih (((s.issue q).observe (.answer true e d)).answered m d) hop rfl rfl
      (drop_succ_of_drop_eq_cons hdrop)).of_later 1 [.tx q, .answer true e d] rfl rfl (by simp)
  | @waited bound k ks ms _ _ es _ _ _ _ hlt hle _ ih =>
    subst hregs
    rw [runFrom_wait, drive_waitEnds body (s.startWait bound) op bound k ks ms es hop htx hdrop rfl hlt hle]
    exact (ih { s.startWait bound with seq := { s.seq with timer := ks.sum + k, pos := s.seq.pos + 1 } } hop htx rfl
      (drop_succ_of_drop_eq_cons hdrop)).of_later 0 [.wait bound] (by simp) rfl rfl

/-- A command comes to its first request or its response whatever the transport port held: none starts with a Wait. -/
theorem runFrom_bodyOf_tx (op : Opcode) (a b : Int) (s : State) :
    runFrom (bodyOf op a b) { s with tx := none } = runFrom (bodyOf op a b) s := by
  cases op <;> rfl

/-- A command that is accepted and served completes, as the statements say it. -/
theorem Serves.completes {i : Instr} {s : State} {n : Nat} {seen : List Obs} {regs : Regs} {res : Result}
    {rest : List Input}
    (h : Serves (bodyOf i.opcode (commandArgs i).1 (commandArgs i).2) s.regs s.inputs n seen regs res rest)
    (haccept : lifecycleError i.opcode s.regs.life = none) :
    Completes i s regs res (BitVec.ofNat 8 n) seen rest := by
  have hrun := h.completedFrom (body := bodyOf i.opcode (commandArgs i).1 (commandArgs i).2)
    { s.accept i.opcode (commandArgs i).1 (commandArgs i).2 with tx := none } i.opcode rfl rfl rfl rfl
  rw [runFrom_bodyOf_tx] at hrun
  refine ⟨_, ?_, hrun.regs, hrun.rsp, hrun.op, by simpa using hrun.step, hrun.tx, hrun.cmds, hrun.inputs, hrun.trace⟩
  rw [exec_eq_command, command_accepted _ _ _ _ _ haccept]

/-! ### INIT on a transport that answers (R51, R120 to R123) -/

/-- Register files with the same slots, derived fields and `life` are the same. -/
theorem Regs.eq_of_slots {r r' : Regs} (hx : ∀ (i : Nat) (hi : i < 16), r.x[i] = r'.x[i]) (hd : r.d = r'.d)
    (hlife : r.life = r'.life) : r = r' := by
  cases r
  cases r'
  simp only [Regs.mk.injEq]
  exact ⟨Vector.ext hx, hd, hlife⟩

/-- The channel number is the truncated quotient as an integer, since the clamped frequency is not below FREQ_LOW. -/
theorem ofNat_channelOf (freq : Int) :
    BitVec.ofNat 16 (channelOf (clampFreq freq)) = BitVec.ofInt 16 ((clampFreq freq - 8700) / 10) := by
  have hlow : 8700 ≤ clampFreq freq := by
    unfold clampFreq clamp
    split
    · decide
    · split <;> simp only [Config.freqHigh, Config.freqLow] at * <;> omega
  have hdiv : (clampFreq freq - 8700) / 10 = ((channelOf (clampFreq freq) : Nat) : Int) := by
    simp only [channelOf, Config.freqLow, Config.freqStep]
    omega
  rw [hdiv, BitVec.ofInt_natCast]

/-- The clamped volume as a value of VOL's low bits. -/
theorem setWidth_clampVolume (vol : Int) :
    (clampVolume vol).setWidth 16 = BitVec.ofInt 16 (clamp vol 0 Config.maxVolume) := by
  have h0 : 0 ≤ clamp vol 0 Config.maxVolume ∧ clamp vol 0 Config.maxVolume ≤ 15 := by
    unfold clamp
    split
    · decide
    · split <;> simp only [Config.maxVolume] at * <;> omega
  unfold clampVolume
  generalize clamp vol 0 Config.maxVolume = v at h0 ⊢
  obtain ⟨hlo, hhi⟩ := h0
  interval_cases v <;> rfl

/-- Settles O39: every micro-step of INIT is served in turn; the values of its requests and the register files it leaves
are read off the updates before them. -/
theorem initBringsUpTheChip : Obligations.InitBringsUpTheChip := by
  intro f0 v0 s e1 e2 e3 e4 e5 e6 e7 e8 e9 d1 d2 d3 d4 d5 d6 d7 d8 d9 ks1 ks2 k1 k2 rest hlt1 hle1 hlt2 hle2 hin
    f v chan vol ra rb
  have hchan : chan = tuneValue f0 := by
    rw [tuneValue, chanValue, ofNat_channelOf]
    rfl
  have hvol : vol = 0x84D0 ||| (clampVolume v0).setWidth 16 := by
    rw [setWidth_clampVolume]
    rfl
  refine Serves.completes (n := 9) ?_ rfl
  simp only [hin, List.cons_append, List.nil_append, List.append_assoc]
  refine .update <| .update <| .update <| .answered ?_ <| .update <| .answered ?_ <| .update <| .answered ?_ <|
    .update <| .update <| .answered ?_ <| .update <| .update <| .update <| .answered ?_ <| .update <| .answered ?_ <|
    .waited hlt1 hle1 <| .answered ?_ <| .waited hlt2 hle2 <| .answered rfl <| .update <| .update <| .update <|
    .answered ?_ <| .update <| .update <| .respond ?regs rfl
  case regs =>
    refine Regs.eq_of_slots (fun i hi => ?_) rfl rfl
    interval_cases i <;> simp [Micro.store, Regs.setBits, Regs.toggleBits_eq, Regs.setVolField, Regs.storeBurst,
      resetState, commandArgs, hchan, hvol, ra, rb, burstRA,
      burstRB]
  all_goals
    simp [Micro.request, Regs.writeRequest, slotAddr, Micro.store, Regs.setBits, Regs.toggleBits_eq, Regs.setVolField,
      Regs.storeBurst, resetState, commandArgs, hchan, hvol]

end Sys2Proof.Machine
end

section
/-! PROOFS. Arrival: a running command reads nothing of what is to come but its inputs in order, so it does not matter
in which parts they come (R64, R73, R282). -/

namespace Sys2Proof.Machine

open Sys2Proof

/-! ### What is to come is not read -/

/-- Micro-steps do not read what is to come. -/
theorem runFrom_withInputs (ms : List Micro) (s : State) (es : List Input) :
    runFrom ms { s with inputs := es } = { runFrom ms s with inputs := es } := by
  induction ms generalizing s with
  | nil => rfl
  | cons m ms ih =>
    cases m with
    | update f => exact ih { s with regs := f s.regs, seq := { s.seq with pos := s.seq.pos + 1 } }
    | _ => rfl

/-- An input acts in the same way whatever comes behind it. -/
theorem onInput_withInputs (body : List Micro) (e : Input) (s : State) (es : List Input) :
    onInput body e { s with inputs := es } = { onInput body e s with inputs := es } := by
  cases e with
  | rst => rfl
  | cmd w => rfl
  | take => rfl
  | ticks count =>
    simp only [onInput, onTicks]
    split
    · next rest _ _ =>
      split
      · exact runFrom_withInputs rest
          { s with seq := { s.seq with timer := s.seq.timer + count, pos := s.seq.pos + 1 } } es
      · rfl
    · rfl
  | tx ok err rdata =>
    simp only [onInput, onAnswer]
    split
    · rfl
    · split
      · split
        · rfl
        · next m rest _ => exact runFrom_withInputs rest ((s.observe (.answer ok err rdata)).answered m rdata) es
      · rfl

/-- A run on a list of inputs does not read the inputs its state holds. -/
theorem drive_withInputs (body : List Micro) (es : List Input) (s : State) (fs : List Input) :
    drive body es { s with inputs := fs } = drive body es s := by
  induction es generalizing s with
  | nil => rfl
  | cons e es ih =>
    cases hop : s.seq.op with
    | none => rw [drive_idle body _ s hop, drive_idle body _ { s with inputs := fs } hop]
    | some op =>
      rw [drive_busy body e es s op hop, drive_busy body e es { s with inputs := fs } op hop, onInput_withInputs]
      exact ih _

/-! ### Inputs in two parts -/

/-- The run on two parts of inputs is the run on the first part, taken up again with what it has left and the second. -/
theorem drive_append (body : List Micro) (es later : List Input) (s : State) :
    drive body (es ++ later) s = drive body ((drive body es s).inputs ++ later) (drive body es s) := by
  induction es generalizing s with
  | nil => exact (drive_withInputs body later s []).symm
  | cons e es ih =>
    cases hop : s.seq.op with
    | none => rw [drive_idle body _ s hop, drive_idle body _ s hop, drive_idle body _ { s with inputs := e :: es } hop]
    | some op => rw [List.cons_append, drive_busy body e _ s op hop, drive_busy body e es s op hop, ih]

/-- A command that still runs has used up its inputs. -/
theorem drive_inputs_of_busy (body : List Micro) (es : List Input) (s : State) (h : (drive body es s).seq.op ≠ none) :
    (drive body es s).inputs = [] := by
  induction es generalizing s with
  | nil => rfl
  | cons e es ih =>
    cases hop : s.seq.op with
    | none =>
      rw [drive_idle body _ s hop] at h
      exact absurd hop h
    | some op =>
      rw [drive_busy body e es s op hop] at h ⊢
      exact ih _ h

/-- A run goes on with the same command or ends it. -/
theorem drive_idleOrRuns (body : List Micro) (es : List Input) (s : State) (op : Opcode) (a b : Int)
    (h : s.IdleOrRuns op a b) : (drive body es s).IdleOrRuns op a b := by
  refine drive_keeps body (fun u => u.IdleOrRuns op a b) (fun _ _ hu => hu) ?_ es s h
  rintro e u op' hop (hidle | hruns)
  · exact absurd (hidle.symm.trans hop) (by simp)
  · exact onInput_idleOrRuns body e u op a b hruns

/-- The step of a running command is the run of its body on what is to come. -/
theorem State.Runs.step_eq {s : State} {op : Opcode} {a b : Int} (h : s.Runs op a b) (es : List Input) :
    step { s with inputs := es } = .next (drive (bodyOf op a b) es s) := by
  obtain ⟨hop, rfl, rfl⟩ := h
  simp only [step, hop, resume, drive_withInputs]

/-- Settles O9: the run on both parts takes up the run on the first, which has either used that part up and runs the
same command, or ended and takes no more. -/
theorem inputsMayArriveLater : Obligations.InputsMayArriveLater := by
  intro s t es later hbusy hstep
  obtain ⟨op, hop⟩ := Option.ne_none_iff_exists'.mp hbusy
  have hrun : s.Runs op s.seq.argA s.seq.argB := ⟨hop, rfl, rfl⟩
  rw [hrun.step_eq] at hstep
  cases hstep
  rw [hrun.step_eq, drive_append]
  refine ⟨fun hstill => ?_, fun hended => ?_⟩
  · have hsame := (drive_idleOrRuns _ es s op _ _ (.inr hrun)).resolve_left hstill
    rw [hsame.step_eq, drive_inputs_of_busy _ es s hstill, List.nil_append]
  · rw [drive_idle _ _ _ hended]

end Sys2Proof.Machine
end

section
/-! PROOFS. Encoding: the three fields of a command word, each kind of operand field with its encoding, and the one lemma
they come to: a word decodes to a command exactly when it is the encoding of that command, well-formed (R90 to R96). -/

namespace Sys2Proof

/-! ### The fields of a word (R90) -/

@[simp] theorem opcField_packFields (opc : Byte) (a b : Field) : opcField (packFields opc a b) = opc := by
  ext i hi
  simp only [opcField, packFields, BitVec.getElem_extractLsb', BitVec.getLsbD_append]
  simp [show ¬ 64 + i < 32 by omega, show ¬ 64 + i - 32 < 32 by omega, show 64 + i - 32 - 32 = i by omega, hi]

@[simp] theorem aField_packFields (opc : Byte) (a b : Field) : aField (packFields opc a b) = a := by
  ext i hi
  simp only [aField, packFields, BitVec.getElem_extractLsb', BitVec.getLsbD_append]
  simp [show ¬ 32 + i < 32 by omega, hi]

@[simp] theorem bField_packFields (opc : Byte) (a b : Field) : bField (packFields opc a b) = b :=
  BitVec.extractLsb'_append_eq_right

/-- A word has no bits outside its three fields. -/
theorem packFields_fields (w : Command) : packFields (opcField w) (aField w) (bField w) = w :=
  calc w.extractLsb' 64 8 ++ w.extractLsb' 32 32 ++ w.extractLsb' 0 32
      = w.extractLsb' 32 40 ++ w.extractLsb' 0 32 :=
        congrArg (· ++ w.extractLsb' 0 32) (BitVec.extractLsb'_append_extractLsb'_eq_extractLsb' rfl)
    _ = w.extractLsb' 0 72 := BitVec.extractLsb'_append_extractLsb'_eq_extractLsb' rfl
    _ = w := BitVec.extractLsb'_eq_self

/-- A word is put together from three fields exactly when they are its own. -/
theorem packFields_eq_iff (opc : Byte) (a b : Field) (w : Command) :
    packFields opc a b = w ↔ opc = opcField w ∧ a = aField w ∧ b = bField w := by
  constructor
  · rintro rfl
    simp
  · rintro ⟨rfl, rfl, rfl⟩
    exact packFields_fields w

/-! ### The opcode map (R95) -/

@[simp] theorem Opcode.ofCode_code (op : Opcode) : Opcode.ofCode op.code = some op := by
  cases op <;> rfl

/-- Each command has one OPC value. -/
theorem Opcode.ofCode_eq_some_iff (c : Byte) (op : Opcode) : Opcode.ofCode c = some op ↔ op.code = c := by
  constructor
  · intro h
    apply BitVec.eq_of_toNat_eq
    unfold Opcode.ofCode at h
    split at h
    case h_17 => contradiction
    all_goals
      next hc =>
        cases h
        exact hc.symm
  · rintro rfl
    exact op.ofCode_code

/-! ### One operand field (R92, R93) -/

/-- The int operands that have a field are the signed 32-bit numbers. -/
theorem intInRange_iff (v : Int) : intInRange v = true ↔ -2147483648 ≤ v ∧ v ≤ 2147483647 := by
  simp [intInRange]

/-- An int field is never refused and holds exactly one number of the range. -/
theorem decodeInt_eq_iff (f : Field) (v : Int) : decodeInt f = v ↔ intInRange v = true ∧ encodeInt v = f := by
  rw [intInRange_iff, decodeInt, encodeInt]
  constructor
  · rintro rfl
    have hlo := f.le_toInt
    have hhi := f.toInt_lt
    exact ⟨by omega, BitVec.ofInt_toInt⟩
  · rintro ⟨⟨hlo, hhi⟩, rfl⟩
    exact BitVec.toInt_ofInt_eq_self (by decide) (by omega) (by omega)

theorem decodeBool_eq_some_iff (f : Field) (b : Bool) : decodeBool f = some b ↔ f = encodeBool b := by
  unfold decodeBool
  split_ifs with h0 h1 <;> cases b <;> simp_all [encodeBool]

theorem decodeBand_eq_some_iff (f : Field) (band : Band) : decodeBand f = some band ↔ f = encodeBand band := by
  unfold decodeBand
  split_ifs with h0 h1 <;> cases band <;> simp_all [encodeBand]

theorem requireZero_eq_some_iff (f : Field) (rest : Option Instr) (i : Instr) :
    requireZero f rest = some i ↔ f = 0 ∧ rest = some i := by
  by_cases hf : f = 0 <;> simp [requireZero, hf]

/-! ### A command word (R90, R92, R95) -/

/-- The operand fields of an opcode decode to a command exactly when they are that command's fields. -/
theorem decodeOperands_eq_some_iff (op : Opcode) (a b : Field) (i : Instr) :
    decodeOperands op a b = some i ↔
      i.wellFormed = true ∧ i.opcode = op ∧ i.encodeA = a ∧ i.encodeB = b := by
  constructor
  · intro h
    cases op with
    | init =>
      cases h
      obtain ⟨hwfA, hA⟩ := (decodeInt_eq_iff a _).mp rfl
      obtain ⟨hwfB, hB⟩ := (decodeInt_eq_iff b _).mp rfl
      exact ⟨(Bool.and_eq_true _ _).mpr ⟨hwfA, hwfB⟩, rfl, hA, hB⟩
    | setfreq | setvolume =>
      obtain ⟨hB, h⟩ := (requireZero_eq_some_iff _ _ _).mp h
      cases h
      obtain ⟨hwf, hA⟩ := (decodeInt_eq_iff a _).mp rfl
      exact ⟨hwf, rfl, hA, hB.symm⟩
    | setbass | setmono | setmute | setsoftmute =>
      obtain ⟨hB, h⟩ := (requireZero_eq_some_iff _ _ _).mp h
      obtain ⟨v, hv, rfl⟩ := Option.map_eq_some_iff.mp h
      exact ⟨rfl, rfl, ((decodeBool_eq_some_iff a v).mp hv).symm, hB.symm⟩
    | setband =>
      obtain ⟨hB, h⟩ := (requireZero_eq_some_iff _ _ _).mp h
      obtain ⟨band, hband, rfl⟩ := Option.map_eq_some_iff.mp h
      exact ⟨rfl, rfl, ((decodeBand_eq_some_iff a band).mp hband).symm, hB.symm⟩
    | term | getfreq | formatfreq | seekup | seekdown | softreset | getrssi | getradioinfo =>
      obtain ⟨hA, h⟩ := (requireZero_eq_some_iff _ _ _).mp h
      obtain ⟨hB, h⟩ := (requireZero_eq_some_iff _ _ _).mp h
      cases h
      exact ⟨rfl, rfl, hA.symm, hB.symm⟩
  · rintro ⟨hwf, rfl, rfl, rfl⟩
    cases i with
    | init f0 v0 =>
      obtain ⟨hf0, hv0⟩ := (Bool.and_eq_true _ _).mp hwf
      rw [Instr.opcode, decodeOperands, Instr.encodeA, Instr.encodeB, (decodeInt_eq_iff _ f0).mpr ⟨hf0, rfl⟩,
        (decodeInt_eq_iff _ v0).mpr ⟨hv0, rfl⟩]
    | setfreq v | setvolume v =>
      exact (requireZero_eq_some_iff _ _ _).mpr ⟨rfl, by rw [Instr.encodeA, (decodeInt_eq_iff _ v).mpr ⟨hwf, rfl⟩]⟩
    | setbass v | setmono v | setmute v | setsoftmute v =>
      exact (requireZero_eq_some_iff _ _ _).mpr
        ⟨rfl, Option.map_eq_some_iff.mpr ⟨v, (decodeBool_eq_some_iff _ v).mpr rfl, rfl⟩⟩
    | setband band =>
      exact (requireZero_eq_some_iff _ _ _).mpr
        ⟨rfl, Option.map_eq_some_iff.mpr ⟨band, (decodeBand_eq_some_iff _ band).mpr rfl, rfl⟩⟩
    | term | getfreq | formatfreq | seekup | seekdown | softreset | getrssi | getradioinfo => rfl

/-- A word whose OPC selects no opcode is ILLEGAL_OPCODE (R97). -/
theorem decode_of_reserved {w : Command} (h : Opcode.ofCode (opcField w) = none) :
    decode w = .reject .illegalOpcode := by
  simp [decode, h]

/-- A word whose OPC selects an opcode decodes as its operand fields do, to ILLEGAL_OPERAND if they do not (R94, R96). -/
theorem decode_of_assigned {w : Command} {op : Opcode} (h : Opcode.ofCode (opcField w) = some op) :
    decode w = (decodeOperands op (aField w) (bField w)).elim (.reject .illegalOperand) .command := by
  cases hargs : decodeOperands op (aField w) (bField w) <;> simp [decode, h, hargs]

/-- A word decodes to a command exactly when its OPC selects an opcode whose operand fields do. -/
theorem decode_eq_command_iff_fields (w : Command) (i : Instr) :
    decode w = .command i ↔
      ∃ op, Opcode.ofCode (opcField w) = some op ∧ decodeOperands op (aField w) (bField w) = some i := by
  cases hop : Opcode.ofCode (opcField w) with
  | none => simp [decode_of_reserved hop]
  | some op => cases hargs : decodeOperands op (aField w) (bField w) <;> simp [decode_of_assigned hop, hargs]

/-- The decoder and the encoder agree: the words that decode to a command are its encoding and no other, and only a
well-formed command has one. -/
theorem decode_eq_command_iff (w : Command) (i : Instr) :
    decode w = .command i ↔ i.wellFormed = true ∧ encode i = w := by
  simp only [decode_eq_command_iff_fields, Opcode.ofCode_eq_some_iff, decodeOperands_eq_some_iff, encode,
    packFields_eq_iff]
  constructor
  · rintro ⟨op, hop, hwf, rfl, hA, hB⟩
    exact ⟨hwf, hop, hA, hB⟩
  · rintro ⟨hwf, hop, hA, hB⟩
    exact ⟨_, hop, hwf, rfl, hA, hB⟩

/-- Settles O1: the encoding of a well-formed command is a word that decodes to it. -/
theorem decodeEncodeRoundTrip : Obligations.DecodeEncodeRoundTrip := fun i hwf =>
  (decode_eq_command_iff (encode i) i).mpr ⟨hwf, rfl⟩

/-- Settles O2: the other direction of the same equivalence. -/
theorem decodedWordIsTheEncoding : Obligations.DecodedWordIsTheEncoding := fun w i =>
  (decode_eq_command_iff w i).mp

/-- Settles O3: each word is the encoding of its command, and the command is well-formed. -/
theorem writtenOutWordsDecode : Obligations.WrittenOutWordsDecode := by
  simp only [Obligations.WrittenOutWordsDecode, decode_eq_command_iff]
  decide

end Sys2Proof
end

section
/-! PROOFS. Illegal words: which words are ILLEGAL_OPCODE and which ILLEGAL_OPERAND, as ranges of their three fields, and
the step that reports them (R94, R97, R233, R234). -/

namespace Sys2Proof

/-! ### The fields as numbers (R90) -/

theorem opcField_toNat (w : Command) : (opcField w).toNat = w.toNat / 2 ^ 64 := by
  have hlt : w.toNat < 2 ^ 72 := w.isLt
  rw [opcField, BitVec.extractLsb'_toNat, Nat.shiftRight_eq_div_pow]
  omega

theorem aField_toNat (w : Command) : (aField w).toNat = w.toNat / 2 ^ 32 % 2 ^ 32 := by
  rw [aField, BitVec.extractLsb'_toNat, Nat.shiftRight_eq_div_pow]

theorem bField_toNat (w : Command) : (bField w).toNat = w.toNat % 2 ^ 32 := by
  rw [bField, BitVec.extractLsb'_toNat, Nat.shiftRight_zero]

/-! ### Reserved opcodes (R97) -/

/-- The reserved OPC values, as the ranges R97 gives. -/
def ReservedOpc (opc : Nat) : Prop :=
  opc = 0x00 ∨ (0x03 ≤ opc ∧ opc ≤ 0x0F) ∨ (0x13 ≤ opc ∧ opc ≤ 0x1F) ∨ (0x25 ≤ opc ∧ opc ≤ 0x2F) ∨
    (0x33 ≤ opc ∧ opc ≤ 0x3F) ∨ (0x43 ≤ opc ∧ opc ≤ 0xFF)

/-- The opcode map answers none for the reserved values and for no other. -/
theorem Opcode.ofCode_eq_none_iff (c : Byte) : Opcode.ofCode c = none ↔ ReservedOpc c.toNat := by
  have hlt : c.toNat < 256 := c.isLt
  unfold Opcode.ofCode ReservedOpc
  split
  case h_17 =>
    simp only [imp_false, true_iff] at *
    omega
  all_goals
    next hc => simp [hc]

/-- A word is ILLEGAL_OPCODE exactly when its OPC selects no opcode. -/
theorem decode_eq_illegalOpcode_iff (w : Command) :
    decode w = .reject .illegalOpcode ↔ Opcode.ofCode (opcField w) = none := by
  cases hop : Opcode.ofCode (opcField w) with
  | none => simp [decode_of_reserved hop]
  | some op => cases hargs : decodeOperands op (aField w) (bField w) <;> simp [decode_of_assigned hop, hargs]

/-! ### Illegal operand fields (R94) -/

/-- The operand fields R94 makes illegal, by the opcodes of each operand kind of R95. -/
def IllegalFields (opc a b : Nat) : Prop :=
  (opc ∈ [0x02, 0x11, 0x12, 0x31, 0x32, 0x40, 0x41, 0x42] ∧ (a ≠ 0 ∨ b ≠ 0)) ∨
    (opc ∈ [0x10, 0x24] ∧ b ≠ 0) ∨
    (opc ∈ [0x20, 0x21, 0x22, 0x23, 0x30] ∧ (b ≠ 0 ∨ 2 ≤ a))

theorem requireZero_eq_none_iff (f : Field) (rest : Option Instr) :
    requireZero f rest = none ↔ f.toNat ≠ 0 ∨ rest = none := by
  unfold requireZero
  split_ifs with hf
  · simp [hf]
  · have hne : f.toNat ≠ 0 := fun h => hf (BitVec.eq_of_toNat_eq h)
    simp [hne]

/-- A field is neither 0 nor 1 exactly when it is 2 or more as a number. -/
theorem field_ne_zero_one_iff (f : Field) : (f ≠ 0 ∧ f ≠ 1) ↔ 2 ≤ f.toNat := by
  rw [ne_eq, ne_eq, ← BitVec.toNat_inj, ← BitVec.toNat_inj]
  simp only [BitVec.ofNat_eq_ofNat, BitVec.toNat_ofNat]
  omega

theorem decodeBool_eq_none_iff (f : Field) : decodeBool f = none ↔ 2 ≤ f.toNat := by
  rw [← field_ne_zero_one_iff]
  unfold decodeBool
  split_ifs with h0 h1 <;> simp_all

theorem decodeBand_eq_none_iff (f : Field) : decodeBand f = none ↔ 2 ≤ f.toNat := by
  rw [← field_ne_zero_one_iff]
  unfold decodeBand
  split_ifs with h0 h1 <;> simp_all

/-- An opcode's operand fields decode to no command exactly when R94 makes them illegal. -/
theorem decodeOperands_eq_none_iff (op : Opcode) (a b : Field) :
    decodeOperands op a b = none ↔ IllegalFields op.code.toNat a.toNat b.toNat := by
  cases op with
  | init => simp [decodeOperands, IllegalFields, Opcode.code]
  | setfreq | setvolume => simp [decodeOperands, IllegalFields, Opcode.code, requireZero_eq_none_iff]
  | setbass | setmono | setmute | setsoftmute =>
    simp [decodeOperands, IllegalFields, Opcode.code, requireZero_eq_none_iff, decodeBool_eq_none_iff]
  | setband => simp [decodeOperands, IllegalFields, Opcode.code, requireZero_eq_none_iff, decodeBand_eq_none_iff]
  | term | getfreq | formatfreq | seekup | seekdown | softreset | getrssi | getradioinfo =>
    simp [decodeOperands, IllegalFields, Opcode.code, requireZero_eq_none_iff]

/-- No reserved OPC stands in a row of the opcode map. -/
theorem not_illegalFields_of_reserved {opc : Nat} (h : ReservedOpc opc) (a b : Nat) : ¬ IllegalFields opc a b := by
  simp only [ReservedOpc] at h
  simp only [IllegalFields, List.mem_cons, List.not_mem_nil, or_false]
  omega

/-- A word is ILLEGAL_OPERAND exactly when R94 makes its fields illegal. -/
theorem decode_eq_illegalOperand_iff (w : Command) :
    decode w = .reject .illegalOperand ↔ IllegalFields (opcField w).toNat (aField w).toNat (bField w).toNat := by
  cases hop : Opcode.ofCode (opcField w) with
  | none =>
    have hreserved := (Opcode.ofCode_eq_none_iff _).mp hop
    simp [decode_of_reserved hop, not_illegalFields_of_reserved hreserved]
  | some op =>
    rw [← (Opcode.ofCode_eq_some_iff _ _).mp hop, ← decodeOperands_eq_none_iff]
    cases hargs : decodeOperands op (aField w) (bField w) <;> simp [decode_of_assigned hop, hargs]

end Sys2Proof

namespace Sys2Proof.Machine

/-! ### The step that reports an illegal word (R233, R234) -/

/-- To an idle RSEQ the error of an illegal word adds its response and nothing else. -/
theorem State.raise_ofReject (s : State) (r : Reject) (hop : s.seq.op = none) (htx : s.tx = none) :
    s.raise (Cause.ofReject r) = { s with
      rsp := some ((Cause.ofReject r).response s.seq.step),
      trace := s.trace ++ [.rsp ((Cause.ofReject r).response s.seq.step)] } := by
  obtain ⟨regs, ⟨op, step, argA, argB, timer, pos⟩, tx, rsp, cmds, inputs, trace⟩ := s
  subst hop htx
  cases r <;> rfl

/-- The step that accepts an illegal word takes the word and adds the response of its error. -/
theorem step_of_reject {s : State} {w : Command} {ws : List Command} {r : Reject} (hop : s.seq.op = none)
    (hrsp : s.rsp = none) (htx : s.tx = none) (hcmds : s.cmds = w :: ws) (hdec : decode w = .reject r) :
    step s = .next { s with
      rsp := some ((Cause.ofReject r).response s.seq.step), cmds := ws,
      trace := s.trace ++ [.rsp ((Cause.ofReject r).response s.seq.step)] } := by
  have hfetch : fetch s = some w := by simp [fetch, State.cmdReady, hop, hrsp, hcmds]
  have hdrop : s.dropFetched = { s with cmds := ws } := by simp [State.dropFetched, hcmds]
  have hraise := State.raise_ofReject { s with cmds := ws } r hop htx
  simp [step, hop, hfetch, hdec, hdrop, hraise]

/-- Settles O4: OPC is reserved exactly when the opcode map answers none, and status 0x10 is that of ILLEGAL_OPCODE. -/
theorem reservedOpcodeIsReported : Obligations.ReservedOpcodeIsReported := by
  refine fun w => ⟨?_, fun s ws hop hrsp htx hcmds hdec => step_of_reject hop hrsp htx hcmds hdec⟩
  rw [decode_eq_illegalOpcode_iff, Opcode.ofCode_eq_none_iff, opcField_toNat]
  rfl

/-- Settles O5: the fields are illegal as numbers exactly when the decoder refuses them, and status 0x11 is that of
ILLEGAL_OPERAND. -/
theorem illegalOperandIsReported : Obligations.IllegalOperandIsReported := by
  refine fun w => ⟨?_, fun s ws hop hrsp htx hcmds hdec => step_of_reject hop hrsp htx hcmds hdec⟩
  rw [decode_eq_illegalOperand_iff, opcField_toNat, aField_toNat, bField_toNat]
  rfl

end Sys2Proof.Machine
end

section
/-! PROOFS. Failed reads: what a command does when the transport refuses its first request (R69, R232, R235), and
GETRADIOINFO (R102, R202). -/

namespace Sys2Proof.Machine

open Sys2Proof

/-! ### A command whose first request fails (R69, R232, R235) -/

/-- The status of a failing answer is its `tx_err`, which is not 0 (R231). -/
theorem TxError.ofBits_code (err : BitVec 2) (h : err ≠ 0) : (TxError.ofBits err).code = err.setWidth 8 := by
  revert err
  decide

/-- Behind a failing answer to the request in flight the command has ended with the transport error. -/
theorem drive_failed (body : List Micro) (s : State) (op : Opcode) (q : TxReq) (e : BitVec 2) (d : BitVec 32)
    (es : List Input) (hop : s.seq.op = some op) (htx : s.tx = some q) :
    drive body (.tx false e d :: es) s =
      { (s.observe (.answer false e d)).raise (.transport (TxError.ofBits e) q) with inputs := es } := by
  rw [drive_busy body _ es s op hop]
  simp only [onInput, onAnswer, htx, Bool.false_eq_true, if_false]
  exact drive_idle _ _ _ rfl

/-- A command other than INIT that starts with a transaction, and is answered with a failure, reports it and changes no
register. -/
theorem failsWith_of_first_request {i : Instr} {s : State} {m : Micro} {ms : List Micro} {q : TxReq} {e : BitVec 2}
    {d : BitVec 32} {rest : List Input}
    (hbody : bodyOf i.opcode (commandArgs i).1 (commandArgs i).2 = m :: ms) (hq : m.request s.regs = some q)
    (hinit : i.opcode ≠ .init) (hlife : s.regs.life = .ready) (hin : s.inputs = .tx false e d :: rest) (he : e ≠ 0) :
    FailsWith i s s.regs ⟨e.setWidth 8, 0, [], 1, q.errAddr, e.setWidth 8⟩ [.tx q, .answer false e d] rest := by
  have haccept : lifecycleError i.opcode s.regs.life = none := by rw [hlife, lifecycleError_ready]
  have hresponse : (Cause.transport (TxError.ofBits e) q).response 1 =
      ⟨e.setWidth 8, 0, [], 1, q.errAddr, e.setWidth 8⟩ := by
    rw [Cause.response, TxError.ofBits_code e he]
  have hissue : ∀ a b, runFrom (m :: ms) (s.accept i.opcode a b) = (s.accept i.opcode a b).issue q := fun _ _ =>
    runFrom_request ms hq
  rw [FailsWith, exec_eq_command, command_accepted _ _ _ _ _ haccept, hbody, hissue, hin,
    drive_failed (m :: ms) _ i.opcode q e d rest rfl rfl, ← hresponse]
  refine ⟨_, rfl, ?_, rfl, rfl, rfl, rfl, rfl, by simp⟩
  simp [State.raise, Cause.lifeAfter, hinit]

/-! ### The four fields of GETRADIOINFO and its result (R102, R202) -/

/-- A bit of a register value, as the quotient's parity. -/
theorem getLsbD_eq_decide (v : Word) (k : Nat) : v.getLsbD k = decide (v.toNat / 2 ^ k % 2 = 1) :=
  Nat.testBit_eq_decide_div_mod_eq

/-- The RSSI as the quotient by 1024, whose value `rssiIsTheUpperSixBits` gives. -/
theorem rssiOf_eq_ofNat (rb : Word) : rssiOf rb = BitVec.ofNat 6 (rb.toNat / 1024) := by
  rw [← (rssiIsTheUpperSixBits rb).1, BitVec.ofNat_toNat, BitVec.setWidth_eq]

/-- A burst leaves its first half in RA, its second half in RB, and CTRL as it was (R67). -/
theorem Regs.storeBurst_slots (rdata : BitVec 32) (r : Regs) :
    (r.storeBurst rdata).x[Config.RA] = burstRA rdata ∧ (r.storeBurst rdata).x[Config.RB] = burstRB rdata ∧
      (r.storeBurst rdata).x[Config.CTRL] = r.x[Config.CTRL] := by
  simp [Regs.storeBurst]

/-- The four internal updates of GETRADIOINFO refresh four fields from RA, RB and CTRL (R202). -/
theorem Regs.readbackRadioInfo (r : Regs) :
    r.readbackRds.readbackRssi.readbackTuned.readbackMono = { r with
      d := { r.d with
        rds := decide (r.x[Config.RA].toNat / 2 ^ 15 % 2 = 1)
        rssi := BitVec.ofNat 6 (r.x[Config.RB].toNat / 1024)
        tuned := decide (r.x[Config.RB].toNat / 2 ^ 8 % 2 = 1)
        mono := decide (r.x[Config.CTRL].toNat / 2 ^ 13 % 2 = 1) } } := by
  simp only [← getLsbD_eq_decide, ← rssiOf_eq_ofNat, ← testBit_rds, ← testBit_fmTrue, ← testBit_mono]
  rfl

/-- The fields of the result word do not overlap: it is the sum of their values (R102). -/
theorem radioInfoWord_eq_ofNat (d : Derived) (rssi : Nat) (h : d.rssi.toNat = rssi) :
    radioInfoWord d = BitVec.ofNat 32
      (rssi + (if d.rds then 2 ^ 8 else 0) + (if d.tuned then 2 ^ 9 else 0) + (if d.mono then 2 ^ 10 else 0)) := by
  subst h
  have hlt : d.rssi.toNat < 2 ^ 6 := d.rssi.isLt
  apply BitVec.eq_of_toNat_eq
  simp only [radioInfoWord, BitVec.toNat_append, BitVec.toNat_ofNat]
  rw [← Nat.shiftLeft_add_eq_or_of_lt hlt]
  cases d.mono <;> cases d.tuned <;> cases d.rds <;> simp <;> omega

/-- Settles O36: a burst that succeeds is served and the four fields are read off the slots it leaves; a burst that fails
is a first request that fails. -/
theorem getradioinfoRefreshesFourFields : Obligations.GetradioinfoRefreshesFourFields := by
  intro s e d rest hlife ra rb rds tuned mono
  constructor
  · intro hin
    refine Serves.completes (n := 1) ?_ (by rw [hlife, lifecycleError_ready])
    rw [hin]
    refine .answered rfl <| .update <| .update <| .update <| .update <| .respond ?_ ?_
    · obtain ⟨hra, hrb, hctrl⟩ := Regs.storeBurst_slots d s.regs
      refine (Regs.readbackRadioInfo (s.regs.storeBurst d)).trans ?_
      rw [hra, hrb, hctrl]
      rfl
    · have hrssi : (BitVec.ofNat 6 (rb.toNat / 1024)).toNat = rb.toNat / 1024 := by
        rw [← rssiOf_eq_ofNat, (rssiIsTheUpperSixBits rb).1]
      exact congrArg (Result.mk · []) (radioInfoWord_eq_ofNat _ _ hrssi)
  · intro hin he
    exact failsWith_of_first_request (i := .getradioinfo) (m := .readSeq) rfl rfl (by decide) hlife hin he

end Sys2Proof.Machine
end

section
/-! PROOFS. Frequencies: what SETFREQ computes from its operand (R141 to R143), what a readback gives (R144, R148), and the
text of a frequency (R147). -/

namespace Sys2Proof.Machine

open Sys2Proof

/-! ### The clamp and the channel number (R141, R142) -/

/-- The clamp of R141, in the rule's own numbers. -/
theorem clampFreq_eq (freq : Int) :
    clampFreq freq = if freq < 8700 then 8700 else if 10800 < freq then 10800 else freq := rfl

/-- A clamped frequency is in range. -/
theorem clampFreq_range (freq : Int) : 8700 ≤ clampFreq freq ∧ clampFreq freq ≤ 10800 := by
  rw [clampFreq_eq]
  split
  · decide
  · split <;> omega

/-- The clamp leaves a frequency in range alone. -/
theorem clampFreq_of_range {f : Int} (hlow : 8700 ≤ f) (hhigh : f ≤ 10800) : clampFreq f = f := by
  rw [clampFreq_eq, if_neg (by omega), if_neg (by omega)]

/-- From FREQ_LOW on the channel number is the quotient of the integers. -/
theorem channelOf_eq_ediv {f : Int} (hlow : 8700 ≤ f) : (channelOf f : Int) = (f - 8700) / 10 := by
  simp only [channelOf, Config.freqLow, Config.freqStep]
  omega

/-- The channel number of a clamped frequency fits the 210 channels of the band. -/
theorem channelOf_clampFreq_le (freq : Int) : channelOf (clampFreq freq) ≤ 210 := by
  obtain ⟨hlow, hhigh⟩ := clampFreq_range freq
  have hquot := channelOf_eq_ediv hlow
  omega

/-- Settles O21: the channel number is a quotient by 10, so the frequency lies in its step of 10. -/
theorem channelNumberTruncates : Obligations.ChannelNumberTruncates := by
  intro freq f
  have hf : clampFreq freq = f := clampFreq_eq freq
  obtain ⟨hlow, _⟩ := clampFreq_range freq
  have hle := channelOf_clampFreq_le freq
  rw [hf] at hlow hle
  have hquot := channelOf_eq_ediv hlow
  exact ⟨hf, hle, by omega, by omega⟩

/-! ### The CHAN value (R143) -/

/-- TUNE and the channel field do not overlap: the CHAN value is the sum of their values. -/
theorem chanValue_toNat {ch : Nat} (h : ch < 1024) : (chanValue ch).toNat = 64 * ch + 16 := by
  have hshift : ch <<< 6 < 2 ^ 16 := by
    rw [Nat.shiftLeft_eq]
    omega
  have hfield : (BitVec.ofNat 16 ch <<< Config.chanShift).toNat = ch <<< 6 := by
    rw [BitVec.toNat_shiftLeft, BitVec.toNat_ofNat, Nat.mod_eq_of_lt (a := ch) (by omega)]
    exact Nat.mod_eq_of_lt hshift
  calc (chanValue ch).toNat
      = ch <<< 6 ||| 16 := by rw [chanValue, BitVec.toNat_or, hfield, Nat.or_comm]; rfl
    _ = ch <<< 6 + 16 := (Nat.shiftLeft_add_eq_or_of_lt (by decide) ch).symm
    _ = 64 * ch + 16 := by rw [Nat.shiftLeft_eq]; omega

/-- Settles O22: the fields are read off the sum. -/
theorem chanValueFields : Obligations.ChanValueFields := by
  intro freq
  have hle := channelOf_clampFreq_le freq
  have hval : (tuneValue freq).toNat = 64 * channelOf (clampFreq freq) + 16 := chanValue_toNat (by omega)
  exact ⟨by omega, by omega, by omega⟩

/-! ### The readback (R144, R148) -/

/-- The mask of RA keeps its ten low bits (R33). -/
theorem toNat_and_raChanMask (ra : Word) : (ra &&& Config.raChanMask).toNat = ra.toNat % 1024 := by
  rw [BitVec.toNat_and]
  exact Nat.and_two_pow_sub_one_eq_mod _ 10

/-- The readback does not overflow: its value is that of the rule's formula. -/
theorem freqOf_toNat (ra : Word) : (freqOf ra).toNat = 8700 + (ra &&& Config.raChanMask).toNat * 10 := by
  have hlt : (ra &&& Config.raChanMask).toNat < 1024 := by
    rw [toNat_and_raChanMask]
    omega
  rw [freqOf, BitVec.toNat_ofNat]
  exact Nat.mod_eq_of_lt (by simp only [Config.freqLow, Config.freqStep]; omega)

/-- Settles O23: ten bits of RA keep the formula below 2^16. -/
theorem readbackIsNotClamped : Obligations.ReadbackIsNotClamped := by
  intro r
  refine ⟨?_, rfl⟩
  rw [Regs.readbackFrequency_d, freqOf_toNat, toNat_and_raChanMask]

/-- Settles O24: the readback of the channel of `f` is 8700 plus ten times the quotient that the channel is. -/
theorem frequencyRoundTrip : Obligations.FrequencyRoundTrip := by
  intro f ra hlow hhigh hra
  have hquot := channelOf_eq_ediv hlow
  have hback : ((freqOf ra).toNat : Int) = 8700 + 10 * ((f - 8700) / 10) := by
    rw [clampFreq_of_range hlow hhigh] at hra
    rw [freqOf_toNat, hra]
    omega
  exact ⟨fun _ => by omega, hback⟩

/-! ### The text of a frequency (R147) -/

/-- The ASCII bytes of the decimal numeral of a number. -/
def asciiDigits (n : Nat) : List Byte := (Nat.toDigits 10 n).map fun c => BitVec.ofNat 8 c.toNat

/-- The model's byte of a digit is the ASCII code of its character. -/
theorem digit_eq_digitChar {k : Nat} (h : k < 10) : BitVec.ofNat 8 k.digitChar.toNat = digit k := by
  interval_cases k <;> rfl

/-- A number below 10 has the numeral of one digit. -/
theorem asciiDigits_of_lt {n : Nat} (h : n < 10) : asciiDigits n = [digit n] := by
  rw [asciiDigits, Nat.toDigits_of_lt_base h, List.map_singleton, digit_eq_digitChar h]

/-- From 10 on the last digit stands behind the numeral of the quotient. -/
theorem asciiDigits_of_le {n : Nat} (h : 10 ≤ n) : asciiDigits n = asciiDigits (n / 10) ++ [digit (n % 10)] := by
  rw [asciiDigits, Nat.toDigits_of_base_le (by decide) h, List.map_append, List.map_singleton,
    digit_eq_digitChar (Nat.mod_lt n (by decide))]
  rfl

/-- From 100 on the last two digits stand behind the numeral of the quotient by 100. -/
theorem asciiDigits_of_hundred_le {n : Nat} (h : 100 ≤ n) :
    asciiDigits n = asciiDigits (n / 100) ++ [digit (n % 100 / 10), digit (n % 100 % 10)] := by
  have htens : n / 10 % 10 = n % 100 / 10 := by omega
  have hones : n % 10 = n % 100 % 10 := by omega
  rw [asciiDigits_of_le (by omega), asciiDigits_of_le (by omega), Nat.div_div_eq_div_mul, htens, hones,
    List.append_assoc]
  rfl

/-- `decimalAux` with fuel for every digit puts the decimal numeral in front of what follows it. -/
theorem decimalAux_eq_asciiDigits {fuel n : Nat} (h : n < 10 ^ (fuel + 1)) (acc : List Byte) :
    decimalAux (fuel + 1) n acc = asciiDigits n ++ acc := by
  induction fuel generalizing n acc with
  | zero =>
    rw [decimalAux, if_pos (by omega), asciiDigits_of_lt (by omega)]
    rfl
  | succ fuel ih =>
    rw [decimalAux]
    split
    next hlt => rw [asciiDigits_of_lt hlt]; rfl
    next hge =>
      have hquot : n / 10 < 10 ^ (fuel + 1) := Nat.div_lt_of_lt_mul (by rwa [← pow_succ'])
      rw [ih hquot, asciiDigits_of_le (not_lt.mp hge), List.append_assoc]
      rfl

/-- The text of a 16-bit number is the numeral of its hundreds, the point, two digits and the suffix. -/
theorem render_eq_asciiDigits {n : Nat} (h : n < 65536) :
    render n = asciiDigits (n / 100) ++ [0x2E, digit (n % 100 / 10), digit (n % 100 % 10)] ++ mhzSuffix := by
  rw [render, decimal, decimalAux_eq_asciiDigits (by omega), List.append_nil]

/-- Settles O25: the last two digits of the numeral from 100 on are the two behind the point. -/
theorem renderInsertsThePoint : Obligations.RenderInsertsThePoint := by
  intro n hn digits
  have hrender := render_eq_asciiDigits hn
  refine ⟨fun hge => ?_, fun hlt => ?_, ?_⟩
  · have hdigits : digits = asciiDigits (n / 100) ++ [digit (n % 100 / 10), digit (n % 100 % 10)] :=
      asciiDigits_of_hundred_le hge
    have hlen : digits.length - 2 = (asciiDigits (n / 100)).length := by simp [hdigits]
    rw [hrender, hlen, hdigits, List.take_left, List.drop_left]
    simp [mhzSuffix]
  · have hhundreds : asciiDigits (n / 100) = [0x30] := by rw [Nat.div_eq_of_lt hlt]; rfl
    rw [hrender, hhundreds, Nat.mod_eq_of_lt hlt]
    rfl
  · have hlen : (asciiDigits (n / 100)).length ≤ 3 := by
      rw [asciiDigits, List.length_map]
      exact Nat.toDigits_length 10 _ 3 (by decide) (by omega)
    rw [hrender]
    simp only [mhzSuffix, List.length_append, List.length_cons, List.length_nil]
    omega

end Sys2Proof.Machine
end

section
/-! PROOFS. GETFREQ, FORMATFREQ and SETFREQ (R140, R145, R146), and what a command does when the transport refuses a later
request (R69, R232, R235, R236). -/

namespace Sys2Proof.Machine

open Sys2Proof

/-! ### GETFREQ and FORMATFREQ (R145, R146) -/

/-- A burst and the readback behind it: both halves in the shadow, and the frequency of the first (R67, R144). -/
theorem Regs.storeBurst_readbackFrequency (rdata : BitVec 32) (r : Regs) :
    (r.storeBurst rdata).readbackFrequency = { r with
      x := (r.x.set 0xA (burstRA rdata)).set 0xB (burstRB rdata)
      d := { r.d with frequency := freqOf (burstRA rdata) } } := by
  obtain ⟨hra, _, _⟩ := Regs.storeBurst_slots rdata r
  rw [Regs.readbackFrequency, hra]
  rfl

/-- The readback as a result: zero-extending it loses nothing. -/
theorem setWidth_freqOf (ra : Word) :
    (freqOf ra).setWidth 32 = BitVec.ofNat 32 (8700 + (ra &&& Config.raChanMask).toNat * 10) := by
  rw [← freqOf_toNat, BitVec.ofNat_toNat]

/-- Settles O28: a burst that succeeds is served and read back; a burst that fails is a first request that fails. -/
theorem getfreqRefreshesAndReturns : Obligations.GetfreqRefreshesAndReturns := by
  intro s e d rest hlife ra rb freq
  constructor
  · intro hin
    refine Serves.completes (n := 1) ?_ (by rw [hlife, lifecycleError_ready])
    rw [hin]
    refine .answered rfl <| .update <| .respond (Regs.storeBurst_readbackFrequency d s.regs) ?_
    exact congrArg (Result.mk · []) (setWidth_freqOf ra)
  · intro hin he
    exact failsWith_of_first_request (i := .getfreq) (m := .readSeq) rfl rfl (by decide) hlife hin he

/-- Settles O29: the one micro-step of FORMATFREQ is its response. -/
theorem formatfreqRendersTheCachedFrequency : Obligations.FormatfreqRendersTheCachedFrequency := by
  intro s hlife
  exact Serves.completes (n := 0) (.respond rfl rfl) (by rw [hlife, lifecycleError_ready])

/-! ### The requests of SETFREQ (R61, R140) -/

/-- The write of a slot transmits the value just stored in it. -/
theorem Regs.setSlot_writeRequest (r : Regs) (a : Slot) (v : Word) :
    (r.setSlot a v).writeRequest a = ⟨.write, slotAddr a, v⟩ := by
  rw [Regs.writeRequest, Regs.setSlot_same]

/-- The write of a slot does not see what is stored in another one. -/
theorem Regs.setSlot_writeRequest_other (r : Regs) {a b : Slot} (v : Word) (h : a ≠ b) :
    (r.setSlot a v).writeRequest b = r.writeRequest b := by
  rw [Regs.writeRequest, Regs.writeRequest, Regs.setSlot_other r a b v h]

/-- The CHAN value of SETFREQ, as the rule's numbers give it (R141 to R143). -/
theorem tuneValue_eq (freq : Int) :
    tuneValue freq = (0x0010 : Word) ||| (BitVec.ofInt 16 ((clampFreq freq - 8700) / 10) <<< 6) := by
  rw [tuneValue, chanValue, ofNat_channelOf]

/-- The first write: CTRL with the bits just set in it. -/
theorem setBits_request (r : Regs) (m : Word) :
    (Micro.writeReg Config.CTRL).request (r.setBits Config.CTRL m) = some ⟨.write, 0x02, r.x[Config.CTRL] ||| m⟩ :=
  congrArg some (Regs.setSlot_writeRequest r Config.CTRL _)

/-- The second write: CHAN with the value just stored in it. -/
theorem setChan_request (r : Regs) (v : Word) :
    (Micro.writeReg Config.CHAN).request (r.setSlot Config.CHAN v) = some ⟨.write, 0x03, v⟩ :=
  congrArg some (Regs.setSlot_writeRequest r Config.CHAN v)

/-- The third write: VOL as it stood before CTRL and CHAN were changed. -/
theorem setChan_setBits_request_vol (r : Regs) (m v : Word) :
    (Micro.writeReg Config.VOL).request ((r.setBits Config.CTRL m).setSlot Config.CHAN v) =
      some ⟨.write, 0x05, r.x[Config.VOL]⟩ := by
  rw [Micro.request, Regs.setSlot_writeRequest_other _ _ (by decide), Regs.setBits,
    Regs.setSlot_writeRequest_other _ _ (by decide)]
  rfl

/-- Settles O26: every micro-step of SETFREQ is served in turn. -/
theorem setfreqTunesAndReadsBack : Obligations.SetfreqTunesAndReadsBack := by
  intro freq s e1 e2 e3 e4 d1 d2 d3 d4 ks1 ks2 k1 k2 rest hlife hlt1 hle1 hlt2 hle2 hin f ctrl chan ra rb
  have hchan : chan = tuneValue freq := (tuneValue_eq freq).symm
  refine Serves.completes (n := 4) ?_ (by rw [hlife, lifecycleError_ready])
  simp only [hin, List.cons_append, List.nil_append, List.append_assoc]
  rw [hchan]
  exact .update <| .answered (setBits_request _ _) <| .update <| .answered (setChan_request _ _) <|
    .waited hlt1 hle1 <| .answered (setChan_setBits_request_vol _ _ _) <| .waited hlt2 hle2 <| .answered rfl <|
    .update <| .respond (Regs.storeBurst_readbackFrequency d4 _) rfl

/-! ### A run in which a request fails (R69, R232, R235, R236) -/

/-- The micro-steps `ms`, from the register files `r` on, come to the request `q` that is answered with the failure `e`:
each transaction before it is answered at once and each Wait is counted out. They issue `n` transactions, the failing one
included, are observed as `seen`, leave the register files `r'`, and leave `rest` of the inputs. -/
inductive Fails (q : TxReq) (e : BitVec 2) :
    List Micro → Regs → List Input → Nat → List Obs → Regs → List Input → Prop where
  | failed {m : Micro} {ms : List Micro} {r r' : Regs} {d : BitVec 32} {rest : List Input} (hr : r = r')
    (hq : m.request r = some q) : Fails q e (m :: ms) r (.tx false e d :: rest) 1 [.tx q, .answer false e d] r' rest
  | update {f : Regs → Regs} {ms : List Micro} {r r' : Regs} {es rest : List Input} {n : Nat} {seen : List Obs}
    (h : Fails q e ms (f r) es n seen r' rest) : Fails q e (.update f :: ms) r es n seen r' rest
  | answered {m : Micro} {q' : TxReq} {ms : List Micro} {r r' : Regs} {e' : BitVec 2} {d : BitVec 32}
    {es rest : List Input} {n : Nat} {seen : List Obs} (hq : m.request r = some q')
    (h : Fails q e ms (m.store d r) es n seen r' rest) :
    Fails q e (m :: ms) r (.tx true e' d :: es) (n + 1) (.tx q' :: .answer true e' d :: seen) r' rest
  | waited {bound k : Nat} {ks : List Nat} {ms : List Micro} {r r' : Regs} {es rest : List Input} {n : Nat}
    {seen : List Obs} (hlt : ks.sum < bound) (hle : bound ≤ ks.sum + k) (h : Fails q e ms r es n seen r' rest) :
    Fails q e (.wait bound :: ms) r (ks.map .ticks ++ .ticks k :: es) n (.wait bound :: seen) r' rest

/-- The response to the failure `e` of the request `q`, when the command has issued `step` transactions (R231, R232). -/
def failure (q : TxReq) (e : BitVec 2) (step : Byte) : Response := (Cause.transport (TxError.ofBits e) q).response step

/-- A failure with a kind reports that kind as its status (R231). -/
theorem failure_eq (q : TxReq) {e : BitVec 2} (step : Byte) (he : e ≠ 0) :
    failure q e step = ⟨e.setWidth 8, 0, [], step, q.errAddr, e.setWidth 8⟩ := by
  rw [failure, Cause.response, TxError.ofBits_code e he]

/-- The state `t` in which a command that stood in `s` has failed with the response `resp`. -/
structure FailedFrom (s : State) (resp : Response) (seen : List Obs) (regs : Regs) (rest : List Input) (t : State) :
    Prop where
  regs : t.regs = regs
  rsp : t.rsp = some resp
  op : t.seq.op = none
  tx : t.tx = none
  cmds : t.cmds = s.cmds
  inputs : t.inputs = rest
  trace : t.trace = s.trace ++ seen ++ [.rsp resp]

/-- A command has failed from `s` too, if `s'` is the record `before` later. -/
theorem FailedFrom.of_later {s s' t : State} {resp : Response} {seen : List Obs} {regs : Regs} {rest : List Input}
    (h : FailedFrom s' resp seen regs rest t) (before : List Obs) (hcmds : s'.cmds = s.cmds)
    (htrace : s'.trace = s.trace ++ before) : FailedFrom s resp (before ++ seen) regs rest t where
  regs := h.regs
  rsp := h.rsp
  op := h.op
  tx := h.tx
  cmds := h.cmds.trans hcmds
  inputs := h.inputs
  trace := by rw [h.trace, htrace, List.append_assoc s.trace]

/-- A command other than INIT that comes to a failing request fails, `n` transactions later. -/
theorem Fails.failedFrom {q : TxReq} {e : BitVec 2} {body ms : List Micro} {r r' : Regs} {es rest : List Input} {n : Nat}
    {seen : List Obs} (h : Fails q e ms r es n seen r' rest) (s : State) (op : Opcode) (hinit : op ≠ .init)
    (hop : s.seq.op = some op) (htx : s.tx = none) (hregs : s.regs = r) (hdrop : body.drop s.seq.pos = ms) :
    FailedFrom s (failure q e (s.seq.step + BitVec.ofNat 8 n)) seen r' rest (drive body es (runFrom ms s)) := by
  induction h generalizing s with
  | @failed m ms _ _ d es hr hq =>
    subst hregs hr
    rw [runFrom_request ms hq, drive_failed body (s.issue q) op q e d es hop rfl]
    refine ⟨State.raise_regs_of_ne_init _ _ ?_, rfl, rfl, rfl, rfl, rfl, by simp [failure]⟩
    simp [hop, hinit]
  | @update f ms _ _ _ _ _ _ _ ih =>
    subst hregs
    rw [runFrom_update]
    exact (ih { s with regs := f s.regs, seq := { s.seq with pos := s.seq.pos + 1 } } hop htx rfl
      (drop_succ_of_drop_eq_cons hdrop)).of_later [] rfl (by simp)
  | @answered m q' ms _ _ e' d es _ n _ hq _ ih =>
    subst hregs
    rw [runFrom_request ms hq, drive_answered body (s.issue q') op q' m ms e' d es hop rfl hdrop, Nat.add_comm n 1,
      BitVec.ofNat_add, ← BitVec.add_assoc]
    exact (ih (((s.issue q').observe (.answer true e' d)).answered m d) hop rfl rfl
      (drop_succ_of_drop_eq_cons hdrop)).of_later [.tx q', .answer true e' d] rfl (by simp)
  | @waited bound k ks ms _ _ es _ _ _ hlt hle _ ih =>
    subst hregs
    rw [runFrom_wait, drive_waitEnds body (s.startWait bound) op bound k ks ms es hop htx hdrop rfl hlt hle]
    exact (ih { s.startWait bound with seq := { s.seq with timer := ks.sum + k, pos := s.seq.pos + 1 } } hop htx rfl
      (drop_succ_of_drop_eq_cons hdrop)).of_later [.wait bound] rfl rfl

/-- A command other than INIT that is accepted and comes to a failing request fails, as the statements say it. -/
theorem Fails.failsWith {i : Instr} {s : State} {q : TxReq} {e : BitVec 2} {es rest : List Input} {n : Nat}
    {seen : List Obs} {regs : Regs} (hinit : i.opcode ≠ .init) (hlife : s.regs.life = .ready) (hin : s.inputs = es)
    (he : e ≠ 0) (h : Fails q e (bodyOf i.opcode (commandArgs i).1 (commandArgs i).2) s.regs es n seen regs rest) :
    FailsWith i s regs ⟨e.setWidth 8, 0, [], BitVec.ofNat 8 n, q.errAddr, e.setWidth 8⟩ seen rest := by
  have hrun := h.failedFrom (body := bodyOf i.opcode (commandArgs i).1 (commandArgs i).2)
    { s.accept i.opcode (commandArgs i).1 (commandArgs i).2 with tx := none } i.opcode hinit rfl rfl rfl rfl
  have hstep : (0 : Byte) + BitVec.ofNat 8 n = BitVec.ofNat 8 n := BitVec.zero_add _
  rw [runFrom_bodyOf_tx, State.accept_seq_step, hstep, failure_eq q _ he] at hrun
  refine ⟨_, ?_, hrun.regs, hrun.rsp, hrun.op, hrun.tx, hrun.cmds, hrun.inputs, hrun.trace⟩
  rw [exec_eq_command, command_accepted _ _ _ _ _ (by rw [hlife, lifecycleError_ready]), hin]

/-- Settles O27: the micro-steps before the failing transaction are served in turn. -/
theorem failedSetfreqKeepsCompletedSteps : Obligations.FailedSetfreqKeepsCompletedSteps := by
  intro freq s e1 e2 e3 e4 d1 d2 d3 d4 rest hlife f ctrl chan q1 q2 q3
  have hchan : chan = tuneValue freq := (tuneValue_eq freq).symm
  have hinit : (Instr.setfreq freq).opcode ≠ .init := nofun
  simp only [q2, hchan]
  refine ⟨fun hin he => ?_, fun hin he => ?_, fun k1 hle1 hin he => ?_, fun k1 k2 hle1 hle2 hin he => ?_⟩
  · exact Fails.failsWith (n := 1) (q := ⟨.write, 0x02, ctrl⟩) hinit hlife hin he <|
      .update <| .failed rfl (setBits_request _ _)
  · exact Fails.failsWith (n := 2) (q := ⟨.write, 0x03, tuneValue freq⟩) hinit hlife hin he <|
      .update <| .answered (setBits_request _ _) <| .update <| .failed rfl (setChan_request _ _)
  · exact Fails.failsWith (n := 3) (q := ⟨.write, 0x05, s.regs.x[Config.VOL]⟩) hinit hlife hin he <|
      .update <| .answered (setBits_request _ _) <| .update <| .answered (setChan_request _ _) <|
      .waited (ks := []) (by decide) (by simpa) <| .failed rfl (setChan_setBits_request_vol _ _ _)
  · exact Fails.failsWith (n := 4) (q := burstRequest) hinit hlife hin he <|
      .update <| .answered (setBits_request _ _) <| .update <| .answered (setChan_request _ _) <|
      .waited (ks := []) (by decide) (by simpa) <| .answered (setChan_setBits_request_vol _ _ _) <|
      .waited (ks := []) (by decide) (by simpa) <| .failed rfl rfl

end Sys2Proof.Machine
end

section
/-! PROOFS. Toggles and volume (R160 to R165): each updates its field and one shadow slot, and writes that slot. -/

namespace Sys2Proof.Machine

open Sys2Proof

/-! ### The one transaction of a control (R160 to R165, R236) -/

/-- A command that a READY RSEQ runs and that is served completes. -/
theorem Serves.completes_of_ready {i : Instr} {s : State} {es rest : List Input} {n : Nat} {seen : List Obs}
    {regs : Regs} {res : Result} (hlife : s.regs.life = .ready) (hin : s.inputs = es)
    (h : Serves (bodyOf i.opcode (commandArgs i).1 (commandArgs i).2) s.regs es n seen regs res rest) :
    Completes i s regs res (BitVec.ofNat 8 n) seen rest :=
  (hin ▸ h).completes (by rw [hlife, lifecycleError_ready])

/-- The last two micro-steps of a control, behind the update of its slot: the new value is transmitted, and the response
has no result. -/
theorem Serves.write_respond {r r' : Regs} {a : Slot} {v : Word} {e : BitVec 2} {d : BitVec 32} {rest : List Input}
    (hr : r = r'.setSlot a v) :
    Serves [.writeReg a, .respond Regs.noResult] r (.tx true e d :: rest) 1
      [.tx ⟨.write, slotAddr a, v⟩, .answer true e d] (r'.setSlot a v) ⟨0, []⟩ rest := by
  subst hr
  exact .answered (congrArg some (Regs.setSlot_writeRequest r' a v)) (.respond rfl rfl)

/-! ### The toggles (R160 to R163, R165) -/

/-- The toggle pattern in the opposite sense: the flag clears the bit (R162). -/
theorem Regs.toggleBits_not (r : Regs) (a : Slot) (m : Word) (b : Bool) :
    r.toggleBits a m (!b) = r.setSlot a (if b then r.x[a] &&& ~~~m else r.x[a] ||| m) := by
  cases b <;> rfl

/-- The toggle pattern behind the clearing of other bits of the slot (R161). -/
theorem Regs.clearBits_toggleBits (r : Regs) (a : Slot) (c m : Word) (b : Bool) :
    (r.clearBits a c).toggleBits a m b =
      r.setSlot a (if b then (r.x[a] &&& ~~~c) ||| m else (r.x[a] &&& ~~~c) &&& ~~~m) := by
  rw [Regs.toggleBits_eq, Regs.clearBits, Regs.setSlot_same, Regs.setSlot_setSlot]

/-- Settles O18: behind the flag, each toggle is one write of its slot, which is transmitted. -/
theorem togglesWriteOneBit : Obligations.TogglesWriteOneBit := by
  intro b s e d rest hlife hin
  refine ⟨?bass, ?mono, ?mute, ?softmute⟩
  all_goals
    refine Serves.completes_of_ready (n := 1) hlife hin ?_
    simp only [commandArgs, Instr.opcode, bodyOf_setbass, bodyOf_setmono, bodyOf_setmute, bodyOf_setsoftmute,
      argBool_boolArg]
  case bass => exact .update <| .update <| .write_respond (Regs.toggleBits_eq (s.regs.setBassBoost b) _ _ b)
  case mono =>
    exact .update <| .update <| .update <| .write_respond (Regs.clearBits_toggleBits (s.regs.setMono b) _ _ _ b)
  case mute => exact .update <| .update <| .write_respond (Regs.toggleBits_not (s.regs.setMute b) _ _ b)
  case softmute => exact .update <| .update <| .write_respond (Regs.toggleBits_eq (s.regs.setSoftMute b) _ _ b)

/-- Settles O19: the flag and the slot are updated before the write that fails, and a failure changes no register. -/
theorem failedSetbassIsNotRolledBack : Obligations.FailedSetbassIsNotRolledBack := by
  intro b s e d rest hlife hin he v
  have hregs : (s.regs.setBassBoost b).toggleBits Config.CTRL Config.BIT_BASS b =
      (s.regs.setBassBoost b).setSlot Config.CTRL v := Regs.toggleBits_eq _ _ _ b
  refine Fails.failsWith (i := .setbass b) (n := 1) (q := ⟨.write, 0x02, v⟩) nofun hlife hin he ?_
  simp only [commandArgs, Instr.opcode, bodyOf_setbass, argBool_boolArg]
  refine .update <| .update <| .failed hregs ?_
  rw [hregs, Micro.request, Regs.setSlot_writeRequest]
  rfl

/-! ### Volume (R164) -/

/-- The clamp of R164, in the rule's own numbers. -/
theorem clamp_maxVolume_eq (vol : Int) :
    clamp vol 0 Config.maxVolume = if vol < 0 then 0 else if 15 < vol then 15 else vol := rfl

/-- The volume field as one write of VOL, with the clamped volume in bits 3:0 (R164). -/
theorem Regs.setVolField_clampVolume (r : Regs) (vol : Int) :
    r.setVolField (clampVolume vol) = r.setSlot Config.VOL
      (r.x[Config.VOL] &&& 0xFFF0 ||| BitVec.ofInt 16 (clamp vol 0 Config.maxVolume)) := by
  rw [Regs.setVolField, setWidth_clampVolume]
  rfl

/-- Settles O20: behind the volume, SETVOLUME is one write of VOL, which is transmitted. -/
theorem setvolumeClampsAndWrites : Obligations.SetvolumeClampsAndWrites := by
  intro vol s e d rest hlife hin v w
  have hregs : (s.regs.setVolume (clampVolume vol)).setVolField (clampVolume vol) =
      (s.regs.setVolume (clampVolume vol)).setSlot Config.VOL w := by
    rw [Regs.setVolField_clampVolume, clamp_maxVolume_eq]
    rfl
  exact Serves.completes_of_ready (n := 1) hlife hin (.update <| .update <| .write_respond hregs)

end Sys2Proof.Machine
end

section
/-! PROOFS. SETBAND, SEEKUP and SEEKDOWN (R180 to R182). -/

namespace Sys2Proof.Machine

open Sys2Proof

/-! ### SETBAND (R180) -/

/-- The CHAN value of SETBAND, in the rule's own numbers (R180). -/
theorem bandValue_eq (band : Band) : bandValue band = if band = .fmworld then 0x0008 else 0x0000 := by
  cases band <;> rfl

/-- Settles O30: behind the band, SETBAND is one write of CHAN, which is transmitted. -/
theorem setbandReplacesChan : Obligations.SetbandReplacesChan := by
  intro band s e d rest hlife hin v
  have hregs : (s.regs.setBand band).setSlot Config.CHAN (bandValue band) =
      (s.regs.setBand band).setSlot Config.CHAN v := by rw [bandValue_eq]
  refine Serves.completes_of_ready (n := 1) hlife hin ?_
  simp only [commandArgs, Instr.opcode, bodyOf_setband, argBand_bandArg]
  exact .update <| .update <| .write_respond hregs

/-! ### The slots of a seek (R101, R181, R182) -/

/-- Setting bits of the slot just written. -/
theorem Regs.setSlot_setBits (r : Regs) (a : Slot) (v m : Word) :
    (r.setSlot a v).setBits a m = r.setSlot a (v ||| m) := by
  rw [Regs.setBits, Regs.setSlot_same, Regs.setSlot_setSlot]

/-- Clearing bits of the slot just written. -/
theorem Regs.setSlot_clearBits (r : Regs) (a : Slot) (v m : Word) :
    (r.setSlot a v).clearBits a m = r.setSlot a (v &&& ~~~m) := by
  rw [Regs.clearBits, Regs.setSlot_same, Regs.setSlot_setSlot]

/-- Writes of different slots commute. -/
theorem Regs.setSlot_comm (r : Regs) {a b : Slot} (v w : Word) (h : a ≠ b) :
    (r.setSlot a v).setSlot b w = (r.setSlot b w).setSlot a v := by
  simp only [Regs.setSlot]
  rw [Vector.set_comm _ _ (Fin.val_ne_iff.mpr h)]

/-- A burst and its readback do not see what is stored in CTRL (R67, R144). -/
theorem Regs.setSlot_ctrl_readback (r : Regs) (v : Word) (rdata : BitVec 32) :
    ((r.setSlot Config.CTRL v).storeBurst rdata).readbackFrequency =
      (r.storeBurst rdata).readbackFrequency.setSlot Config.CTRL v := by
  have hburst : (r.setSlot Config.CTRL v).storeBurst rdata = (r.storeBurst rdata).setSlot Config.CTRL v := by
    rw [Regs.storeBurst, Regs.setSlot_comm r _ _ (by decide), Regs.setSlot_comm _ _ _ (by decide), Regs.storeBurst]
  rw [hburst, Regs.readbackFrequency, Regs.setSlot_other _ _ _ _ (by decide)]
  rfl

/-! ### The run of a seek (R181, R182) -/

/-- The two seeks differ only in the sense in which the direction bit is toggled. -/
theorem bodyOf_seek (up : Bool) (a b : Int) :
    bodyOf (if up then Instr.seekup else Instr.seekdown).opcode a b =
      (.update fun r => r.toggleBits Config.CTRL Config.BIT_SEEKUP up) :: seekTail := by
  cases up <;> rfl

/-- What a seek does once CTRL holds the direction `c`: SEEK is set and transmitted, the window passes, the burst is read
back, and SEEK is cleared and transmitted. -/
theorem Serves.seekTail {r r' : Regs} {c : Word} {e1 e2 e3 : BitVec 2} {d1 d2 d3 : BitVec 32} {ks : List Nat} {k : Nat}
    {rest : List Input} (hr : r = r'.setSlot Config.CTRL c) (hlt : ks.sum < 1000) (hle : 1000 ≤ ks.sum + k) :
    Serves seekTail r (.tx true e1 d1 :: (ks.map .ticks ++ .ticks k :: .tx true e2 d2 :: .tx true e3 d3 :: rest)) 3
      [.tx ⟨.write, 0x02, c ||| Config.BIT_SEEK⟩, .answer true e1 d1, .wait 1000, .tx burstRequest, .answer true e2 d2,
       .tx ⟨.write, 0x02, (c ||| Config.BIT_SEEK) &&& ~~~Config.BIT_SEEK⟩, .answer true e3 d3]
      ((r'.setSlot Config.CTRL ((c ||| Config.BIT_SEEK) &&& ~~~Config.BIT_SEEK)).storeBurst d2).readbackFrequency ⟨0, []⟩
      rest := by
  have hset : r.setBits Config.CTRL Config.BIT_SEEK = r'.setSlot Config.CTRL (c ||| Config.BIT_SEEK) := by
    rw [hr, Regs.setSlot_setBits]
  have hclear : ((r.setBits Config.CTRL Config.BIT_SEEK).storeBurst d2).readbackFrequency.clearBits Config.CTRL
      Config.BIT_SEEK = (r'.storeBurst d2).readbackFrequency.setSlot Config.CTRL
        ((c ||| Config.BIT_SEEK) &&& ~~~Config.BIT_SEEK) := by
    rw [hset, Regs.setSlot_ctrl_readback, Regs.setSlot_clearBits]
  have hwrite : (Micro.writeReg Config.CTRL).request (r.setBits Config.CTRL Config.BIT_SEEK) =
      some ⟨.write, 0x02, c ||| Config.BIT_SEEK⟩ := by
    rw [hset, Micro.request, Regs.setSlot_writeRequest]
    rfl
  rw [Regs.setSlot_ctrl_readback]
  exact .update <| .answered hwrite <| .waited hlt hle <| .answered rfl <| .update <| .update <| .write_respond hclear

/-- Settles O31: behind the direction bit both seeks run the same micro-steps, which are served in turn. -/
theorem seekRunsItsWindow : Obligations.SeekRunsItsWindow := by
  intro up s e1 e2 e3 d1 d2 d3 ks k rest hlife hlt hle hin armed ended ra rb
  simp only [List.cons_append, List.nil_append, List.append_assoc] at hin
  refine Serves.completes_of_ready (n := 3) hlife hin ?_
  rw [bodyOf_seek]
  have htail := Serves.seekTail (e1 := e1) (e2 := e2) (e3 := e3) (d1 := d1) (d2 := d2) (d3 := d3) (rest := rest)
    (Regs.toggleBits_eq s.regs Config.CTRL Config.BIT_SEEKUP up) hlt hle
  rw [Regs.storeBurst_readbackFrequency] at htail
  exact .update htail

end Sys2Proof.Machine
end

section
/-! PROOFS. SOFTRESET, GETRSSI and TERM (R200, R201, R203, R204). -/

namespace Sys2Proof.Machine

open Sys2Proof

/-! ### SOFTRESET (R200) -/

/-- Bits set and cleared again, as one write of the slot: they end clear even if they stood set before (R200). -/
theorem Regs.setBits_clearBits (r : Regs) (a : Slot) (m : Word) :
    (r.setBits a m).clearBits a m = r.setSlot a ((r.x[a] ||| m) &&& ~~~m) := by
  rw [Regs.setBits, Regs.setSlot_clearBits]

/-- Settles O33: the first write and the Wait are served; RESET is cleared in the shadow before the second write, which
is served or fails. -/
theorem softresetHoldsResetThenClearsIt : Obligations.SoftresetHoldsResetThenClearsIt := by
  intro s ok e1 e2 d1 d2 ks k rest hlife hlt hle hin held ended seen
  have hended : (s.regs.setBits Config.CTRL Config.BIT_RESET).clearBits Config.CTRL Config.BIT_RESET =
      s.regs.setSlot Config.CTRL ended := Regs.setBits_clearBits s.regs _ _
  simp only [List.cons_append, List.nil_append, List.append_assoc] at hin
  constructor
  · rintro rfl
    exact Serves.completes_of_ready (n := 2) hlife hin <|
      .update <| .answered (setBits_request _ _) <| .waited hlt hle <| .update <| .write_respond hended
  · rintro rfl he
    have hwrite : (Micro.writeReg Config.CTRL).request (s.regs.setSlot Config.CTRL ended) =
        some ⟨.write, 0x02, ended⟩ := congrArg some (Regs.setSlot_writeRequest s.regs Config.CTRL ended)
    exact Fails.failsWith (i := .softreset) (n := 2) (q := ⟨.write, 0x02, ended⟩) nofun hlife hin he <|
      .update <| .answered (setBits_request _ _) <| .waited hlt hle <| .update <| .failed hended (hended ▸ hwrite)

/-! ### GETRSSI (R201) -/

/-- An indexed read of RB and the readback behind it: the value in the shadow, and its RSSI in the cache (R67, R201). -/
theorem Regs.setSlot_readbackRssi (r : Regs) (w : Word) :
    (r.setSlot Config.RB w).readbackRssi = { r with
      x := r.x.set 0xB w
      d := { r.d with rssi := BitVec.ofNat 6 (w.toNat / 1024) } } := by
  rw [Regs.readbackRssi, Regs.setSlot_same, rssiOf_eq_ofNat]
  rfl

/-- The RSSI as a result: zero-extending it loses nothing. -/
theorem setWidth_rssiOf (w : Word) : (rssiOf w).setWidth 32 = BitVec.ofNat 32 (w.toNat / 1024) := by
  rw [← (rssiIsTheUpperSixBits w).1, BitVec.ofNat_toNat]

/-- Settles O35: a read that succeeds is served and read back; a read that fails is a first request that fails. -/
theorem getrssiCachesAndReturns : Obligations.GetrssiCachesAndReturns := by
  intro s e d rest hlife w
  constructor
  · intro hin
    have hresult : Regs.rssiResult { s.regs with
        x := s.regs.x.set 0xB w, d := { s.regs.d with rssi := BitVec.ofNat 6 (w.toNat / 1024) } } =
        ⟨BitVec.ofNat 32 (w.toNat / 1024), []⟩ := by
      rw [Regs.rssiResult, ← rssiOf_eq_ofNat, setWidth_rssiOf]
    exact Serves.completes_of_ready (n := 1) hlife hin <|
      .answered rfl <| .update <| .respond (Regs.setSlot_readbackRssi s.regs w) hresult
  · intro hin he
    exact failsWith_of_first_request (i := .getrssi) (m := .readReg Config.RB) rfl rfl (by decide) hlife hin he

/-! ### TERM (R203, R204) -/

/-- The register files when TERM has zeroed the volume and CTRL. -/
def Regs.silenced (r : Regs) : Regs :=
  ((r.setVolume 0).setSlot Config.VOL (r.x[Config.VOL] &&& 0xFFF0)).setSlot Config.CTRL 0x0000

/-- Volume 0 as one write of VOL (R164). -/
theorem Regs.setVolField_zero (r : Regs) :
    (r.setVolume (clampVolume 0)).setVolField (clampVolume 0) =
      (r.setVolume 0).setSlot Config.VOL (r.x[Config.VOL] &&& 0xFFF0) := by
  rw [Regs.setVolField_clampVolume]
  exact congrArg _ (BitVec.or_zero (x := r.x[Config.VOL] &&& 0xFFF0))

/-- TERM starts in both builds with the write of VOL, and zeroes CTRL in the shadow behind it (R203, R204). -/
theorem Serves.termStart {ms : List Micro} {r r' : Regs} {e : BitVec 2} {d : BitVec 32} {es rest : List Input} {n : Nat}
    {seen : List Obs} {res : Result} (h : Serves ms r.silenced es n seen r' res rest) :
    Serves (setvolumeCore 0 ++ .update (fun r => r.setSlot Config.CTRL 0x0000) :: ms) r (.tx true e d :: es) (n + 1)
      (.tx ⟨.write, 0x05, r.x[Config.VOL] &&& 0xFFF0⟩ :: .answer true e d :: seen) r' res rest := by
  refine .update <| .update ?_
  rw [Regs.setVolField_zero]
  exact .answered (congrArg some (Regs.setSlot_writeRequest (r.setVolume 0) Config.VOL _)) (.update h)

/-- TERM ends in both builds with the lifecycle (R203, R204). -/
theorem Serves.termEnd (r : Regs) (rest : List Input) :
    Serves [.update (Regs.setLife .terminated), .respond Regs.noResult] r rest 0 [] (r.setLife .terminated) ⟨0, []⟩
      rest :=
  .update (.respond rfl rfl)

/-- The bulk write transmits registers 2 to 7 as they stand and changes none (R203). -/
theorem Serves.flush {ms : List Micro} {r r' : Regs} {e2 e3 e4 e5 e6 e7 : BitVec 2} {d2 d3 d4 d5 d6 d7 : BitVec 32}
    {es rest : List Input} {n : Nat} {seen : List Obs} {res : Result} (h : Serves ms r es n seen r' res rest) :
    Serves (flushCore ++ ms) r
      (.tx true e2 d2 :: .tx true e3 d3 :: .tx true e4 d4 :: .tx true e5 d5 :: .tx true e6 d6 :: .tx true e7 d7 :: es)
      (n + 6)
      (.tx (r.writeRequest 0x2) :: .answer true e2 d2 :: .tx (r.writeRequest 0x3) :: .answer true e3 d3 ::
       .tx (r.writeRequest 0x4) :: .answer true e4 d4 :: .tx (r.writeRequest 0x5) :: .answer true e5 d5 ::
       .tx (r.writeRequest 0x6) :: .answer true e6 d6 :: .tx (r.writeRequest 0x7) :: .answer true e7 d7 :: seen)
      r' res rest :=
  .answered rfl <| .answered rfl <| .answered rfl <| .answered rfl <| .answered rfl <| .answered rfl h

/-- What the bulk write transmits for CTRL: 0 (R203). -/
theorem Regs.silenced_writeRequest_ctrl (r : Regs) : r.silenced.writeRequest 0x2 = ⟨.write, 0x02, 0x0000⟩ :=
  Regs.setSlot_writeRequest _ Config.CTRL _

/-- What the bulk write transmits for VOL: the value with volume 0 (R203). -/
theorem Regs.silenced_writeRequest_vol (r : Regs) :
    r.silenced.writeRequest 0x5 = ⟨.write, 0x05, r.x[Config.VOL] &&& 0xFFF0⟩ :=
  (Regs.setSlot_writeRequest_other _ _ (by decide)).trans (Regs.setSlot_writeRequest _ Config.VOL _)

/-- What the bulk write transmits for every other slot: its value before TERM (R203). -/
theorem Regs.silenced_writeRequest_other (r : Regs) {a : Slot} (hctrl : Config.CTRL ≠ a) (hvol : Config.VOL ≠ a) :
    r.silenced.writeRequest a = r.writeRequest a :=
  (Regs.setSlot_writeRequest_other _ _ hctrl).trans (Regs.setSlot_writeRequest_other _ _ hvol)

/-- Settles O37: the write of VOL, the bulk write and the end of TERM are served in turn. -/
theorem termFlushesAndTerminates : Obligations.TermFlushesAndTerminates := by
  intro s e1 e2 e3 e4 e5 e6 e7 d1 d2 d3 d4 d5 d6 d7 rest hlife hin vol
  have hserves := Serves.termStart (e := e1) (d := d1) (Serves.flush (e2 := e2) (e3 := e3) (e4 := e4) (e5 := e5)
    (e6 := e6) (e7 := e7) (d2 := d2) (d3 := d3) (d4 := d4) (d5 := d5) (d6 := d6) (d7 := d7)
    (Serves.termEnd s.regs.silenced rest))
  rw [Regs.silenced_writeRequest_ctrl, Regs.silenced_writeRequest_vol,
    Regs.silenced_writeRequest_other s.regs (a := 0x3) (by decide) (by decide),
    Regs.silenced_writeRequest_other s.regs (a := 0x4) (by decide) (by decide),
    Regs.silenced_writeRequest_other s.regs (a := 0x6) (by decide) (by decide),
    Regs.silenced_writeRequest_other s.regs (a := 0x7) (by decide) (by decide)] at hserves
  exact Serves.completes_of_ready (i := .term) (n := 7) hlife hin hserves

/-- A command with any body completes once it is accepted and served. What the transport port held does not matter for a
body that comes to a request or its response before any Wait. -/
theorem Serves.command_completes {op : Opcode} {a b : Int} {body : List Micro} {s : State} {n : Nat} {seen : List Obs}
    {regs : Regs} {res : Result} {rest : List Input} (h : Serves body s.regs s.inputs n seen regs res rest)
    (haccept : lifecycleError op s.regs.life = none)
    (htx : ∀ t : State, runFrom body { t with tx := none } = runFrom body t) :
    ∃ t, command op a b body s = .next t ∧ CompletedFrom (s.accept op a b) n seen regs res rest t := by
  have hrun := h.completedFrom (body := body) { s.accept op a b with tx := none } op rfl rfl rfl rfl
  rw [htx] at hrun
  refine ⟨_, command_accepted op a b body s haccept, ?_⟩
  exact { hrun with }

/-- Settles O38: without the bulk write, the end of TERM is served directly behind its start. -/
theorem termWithoutFlushWritesOnlyVol : Obligations.TermWithoutFlushWritesOnlyVol := by
  intro s e d rest hlife hin vol
  have hserves : Serves (termBody false) s.regs s.inputs 1 [.tx ⟨.write, 0x05, vol⟩, .answer true e d]
      (s.regs.silenced.setLife .terminated) ⟨0, []⟩ rest := by
    rw [hin]
    exact .termStart (.termEnd s.regs.silenced rest)
  obtain ⟨t, hexec, hdone⟩ := hserves.command_completes (op := .term) (a := 0) (b := 0)
    (by rw [hlife, lifecycleError_ready]) (fun _ => rfl)
  refine ⟨t, hexec, hdone.regs, hdone.rsp, hdone.op, hdone.tx, hdone.inputs, ?_⟩
  rw [hdone.trace, List.append_assoc]
  rfl

end Sys2Proof.Machine
end

section
/-! PROOFS. Errors: what taking an error does to an idle and to a running RSEQ, and what every command keeps of the
lifecycle up to its response (R230, R232, R235, R237, R239). -/

namespace Sys2Proof.Machine

open Sys2Proof

/-! ### Every step answers (R230, R239) -/

/-- Settles O7: each of the four things a step can do answers a state, the refusal of a command included. -/
theorem everyStepAnswersANextState : Obligations.EveryStepAnswersANextState := by
  intro s
  rcases step_cases s with ⟨op, _, heq⟩ | ⟨w, i, _, _, heq⟩ | ⟨w, r, _, _, heq⟩ | ⟨_, _, heq⟩
  · exact ⟨_, heq⟩
  · rcases exec_cases i s.dropFetched with ⟨c, hexec⟩ | hexec
    · exact ⟨_, heq.trans hexec⟩
    · exact ⟨_, heq.trans hexec⟩
  · exact ⟨_, heq⟩
  · exact ⟨_, heq⟩

/-! ### A failing transaction of a running command (R232, R235, R236) -/

/-- The address that is reported: A_RA for a burst, and the request's own otherwise (R232). -/
theorem TxReq.errAddr_eq (q : TxReq) : q.errAddr = if q.kind = .readSeq then 0x0A else q.addr := by
  unfold TxReq.errAddr
  cases q.kind <;> rfl

/-- What a transport error changes of a running RSEQ (R235). -/
theorem State.raise_transport_of_running (s : State) (op : Opcode) (kind : TxError) (q : TxReq)
    (hop : s.seq.op = some op) :
    s.raise (.transport kind q) = { s with
      regs := { s.regs with life := if op = .init then .uninit else s.regs.life },
      seq := { s.seq with op := none }, tx := none,
      rsp := some ((Cause.transport kind q).response s.seq.step),
      trace := s.trace ++ [.rsp ((Cause.transport kind q).response s.seq.step)] } := by
  simp [State.raise, State.emit, Cause.lifeAfter, hop]

/-- Settles O16: the failing answer takes the transport error of the request in flight, and the run of the command stops
there. -/
theorem failedTransactionAbortsTheCommand : Obligations.FailedTransactionAbortsTheCommand := by
  intro s op q err rdata rest hop htx hin herr r
  have hresponse : (Cause.transport (TxError.ofBits err) q).response s.seq.step = r := by
    rw [Cause.response, TxError.ofBits_code err herr, TxReq.errAddr_eq]
  have hstep : step s = .next (resume op s) := by simp [step, hop]
  rw [hstep, resume, hin, drive_failed _ s op q err rdata rest hop htx,
    State.raise_transport_of_running (s.observe (.answer false err rdata)) op _ q hop, State.observe_seq, hresponse]
  simp

/-! ### Refusal by the lifecycle (R42, R237) -/

/-- To an idle RSEQ every error adds its response and nothing else. -/
theorem State.raise_of_idle (s : State) (c : Cause) (hop : s.seq.op = none) (htx : s.tx = none) :
    s.raise c = { s with
      rsp := some (c.response s.seq.step), trace := s.trace ++ [.rsp (c.response s.seq.step)] } := by
  have hregs := s.raise_regs_of_ne_init c (by simp [hop])
  obtain ⟨regs, ⟨op, step, argA, argB, timer, pos⟩, tx, rsp, cmds, inputs, trace⟩ := s
  subst hop htx
  simpa [State.raise, State.emit] using hregs

theorem lifecycleError_uninit {op : Opcode} (h : op ≠ .init) : lifecycleError op .uninit = some .notInitialised := by
  simp [lifecycleError, h]

theorem lifecycleError_terminated {op : Opcode} (h : op ≠ .init) :
    lifecycleError op .terminated = some .terminated := by
  simp [lifecycleError, h]

/-- A command other than INIT is accepted only while READY. -/
theorem life_of_lifecycleError_eq_none {op : Opcode} {life : Life} (h : lifecycleError op life = none)
    (hop : op ≠ .init) : life = .ready := by
  cases life with
  | uninit => simp [lifecycleError_uninit hop] at h
  | ready => rfl
  | terminated => simp [lifecycleError_terminated hop] at h

/-- The lifecycle check has two errors. -/
theorem lifecycleError_eq_some {op : Opcode} {life : Life} {c : Cause} (h : lifecycleError op life = some c) :
    c = .notInitialised ∨ c = .terminated := by
  unfold lifecycleError at h
  split at h
  · contradiction
  · cases life with
    | uninit => exact .inl (Option.some.inj h).symm
    | ready => contradiction
    | terminated => exact .inr (Option.some.inj h).symm

/-- An idle RSEQ refuses the command with the response of its lifecycle error. -/
theorem exec_of_lifecycleError {i : Instr} {s : State} {c : Cause} (hop : s.seq.op = none) (htx : s.tx = none)
    (h : lifecycleError i.opcode s.regs.life = some c) :
    exec i s = .next { s with
      rsp := some (c.response s.seq.step), trace := s.trace ++ [.rsp (c.response s.seq.step)] } := by
  rw [exec_eq_command, command_refused _ _ _ _ s c h, s.raise_of_idle c hop htx]

/-! ### The lifecycle of an accepted command (R235, R237) -/

/-- The internal updates among the micro-steps leave `life` alone, but for one directly before the response. -/
def LifeKeptUpToResponse : List Micro → Prop
  | [] => True
  | .update f :: ms => ((∀ r, (f r).life = r.life) ∨ ∃ g, ms = [.respond g]) ∧ LifeKeptUpToResponse ms
  | _ :: ms => LifeKeptUpToResponse ms

/-- Outside INIT only TERM writes `life`, with its last update (R42, R203). -/
theorem bodyOf_lifeKeptUpToResponse (op : Opcode) (a b : Int) (hop : op ≠ .init) :
    LifeKeptUpToResponse (bodyOf op a b) := by
  cases op
  case init => exact absurd rfl hop
  all_goals simp [LifeKeptUpToResponse]

/-- The micro-steps that are left of such a list are such a list. -/
theorem LifeKeptUpToResponse.drop {ms : List Micro} (h : LifeKeptUpToResponse ms) (n : Nat) :
    LifeKeptUpToResponse (ms.drop n) := by
  induction ms generalizing n with
  | nil => simpa using h
  | cons m ms ih =>
    cases n with
    | zero => exact h
    | succ n =>
      refine ih ?_ n
      cases m with
      | update f => exact h.2
      | _ => exact h

/-- The accepted command `op` has no response yet, and RSEQ is READY unless the command is INIT. -/
def Underway (op : Opcode) (t : State) : Prop :=
  t.seq.op = some op ∧ t.rsp = none ∧ (op ≠ .init → t.regs.life = .ready)

/-- The command `op` has ended: with no response, with OK, or with a transport error that left the `life` of R237. -/
def EndedByRule (op : Opcode) (t : State) : Prop :=
  t.seq.op = none ∧ ∀ r, t.rsp = some r → r.status = 0x00 ∨
    (∃ kind : TxError, r.status = kind.code) ∧ t.regs.life = if op = .init then .uninit else .ready

/-- Micro-steps that keep `life` up to the response go on with the command, or end it with OK. -/
theorem runFrom_underway {op : Opcode} (ms : List Micro) (hms : op ≠ .init → LifeKeptUpToResponse ms) (s : State)
    (h : Underway op s) : Underway op (runFrom ms s) ∨ EndedByRule op (runFrom ms s) := by
  have hok : ∀ (t : State) (res : Result), EndedByRule op (t.emit (okResponse res)) := fun t res =>
    ⟨rfl, fun r hr => by cases hr; exact .inl rfl⟩
  induction ms generalizing s with
  | nil => exact .inl h
  | cons m ms ih =>
    cases m with
    | update f =>
      obtain ⟨hop, hrsp, hlife⟩ := h
      by_cases hinit : op = .init
      · exact ih (fun hne => absurd hinit hne) _ ⟨hop, hrsp, fun hne => absurd hinit hne⟩
      · obtain ⟨hkept | ⟨g, rfl⟩, hrest⟩ := hms hinit
        · exact ih (fun _ => hrest) _ ⟨hop, hrsp, fun hne => (hkept s.regs).trans (hlife hne)⟩
        · exact .inr (hok _ _)
    | respond g => exact .inr (hok s _)
    | _ => exact .inl h

/-- The rest of a command, behind the micro-step in progress, goes on with it or ends it as R237 says. -/
theorem runFrom_rest_underway {op : Opcode} {a b : Int} {n : Nat} {m : Micro} {rest : List Micro}
    (hdrop : (bodyOf op a b).drop n = m :: rest) (s : State) (h : Underway op s) :
    Underway op (runFrom rest s) ∨ EndedByRule op (runFrom rest s) := by
  refine runFrom_underway rest (fun hinit => ?_) s h
  rw [← drop_succ_of_drop_eq_cons hdrop]
  exact (bodyOf_lifeKeptUpToResponse op a b hinit).drop (n + 1)

/-- What a successful answer stores leaves `life` alone. -/
@[simp] theorem Micro.store_life (m : Micro) (rdata : BitVec 32) (r : Regs) : (m.store rdata r).life = r.life := by
  cases m <;> rfl

/-- A command that still runs is underway. -/
theorem underway_of_runs {op : Opcode} {a b : Int} {s : State} (hrun : s.Runs op a b)
    (h : Underway op s ∨ EndedByRule op s) : Underway op s :=
  h.resolve_right fun hend => hrun.op_ne_none hend.1

/-- A failing transaction of the running command ends it with the `life` of R237. -/
theorem endedByRule_raise_transport {op : Opcode} {s : State} (kind : TxError) (q : TxReq) (h : Underway op s) :
    EndedByRule op (s.raise (.transport kind q)) := by
  obtain ⟨hop, _, hlife⟩ := h
  refine ⟨rfl, fun r hr => .inr ⟨⟨kind, ?_⟩, ?_⟩⟩
  · cases hr
    rfl
  · rw [State.raise_transport_of_running s op kind q hop]
    by_cases hinit : op = .init
    · simp [hinit]
    · simp [hinit, hlife hinit]

/-- A command from its acceptance on is underway, or has ended as R237 says. -/
theorem keptWhileRunning_underway (op : Opcode) (a b : Int) :
    KeptWhileRunning op a b (fun s => Underway op s ∨ EndedByRule op s) where
  inputs _ _ h := h
  cmds _ _ h := h
  take s hrun h := by
    obtain ⟨hop, _, hlife⟩ := underway_of_runs hrun h
    exact .inl ⟨hop, rfl, hlife⟩
  counts _ _ _ _ _ _ _ _ h := h
  waitEnds _ _ _ _ hrun _ hdrop h := runFrom_rest_underway hdrop _ (underway_of_runs hrun h)
  fails s _ err rdata hrun _ h :=
    .inr (endedByRule_raise_transport (s := s.observe (.answer false err rdata)) _ _ (underway_of_runs hrun h))
  answeredAtEnd _ _ _ _ _ _ _ h := h
  answers s _ m _ err rdata hrun _ hdrop h := by
    obtain ⟨hop, hrsp, hlife⟩ := underway_of_runs hrun h
    exact runFrom_rest_underway hdrop _ ⟨hop, hrsp, fun hinit => by simpa using hlife hinit⟩

/-- What a command that starts with no response pending answers: the response of its lifecycle error, or a state in
which it is underway or has ended as R237 says. -/
theorem exec_underway_or_ended {i : Instr} {s t : State} (hrsp : s.rsp = none) (hexec : exec i s = .next t) :
    (∃ c, lifecycleError i.opcode s.regs.life = some c ∧ t = s.raise c) ∨ Underway i.opcode t ∨ EndedByRule i.opcode t := by
  rw [exec_eq_command] at hexec
  rcases command_cases i.opcode (commandArgs i).1 (commandArgs i).2
      (bodyOf i.opcode (commandArgs i).1 (commandArgs i).2) s with ⟨c, herror, heq⟩ | ⟨haccept, heq⟩ <;>
    cases heq.symm.trans hexec
  · exact .inl ⟨c, herror, rfl⟩
  · have hstart : Underway i.opcode (s.accept i.opcode (commandArgs i).1 (commandArgs i).2) :=
      ⟨rfl, hrsp, life_of_lifecycleError_eq_none haccept⟩
    have hreset : ∀ u : State, EndedByRule i.opcode u.hardReset := fun u => ⟨rfl, fun _ hr => nomatch hr⟩
    exact .inr <| (keptWhileRunning_underway _ _ _).drive s.inputs (fun _ _ _ u => .inr (hreset u)) _
      (runFrom_idleOrRuns _ _ _ _ _ (s.accept_runs _ _ _))
      (runFrom_underway _ (bodyOf_lifeKeptUpToResponse _ _ _) _ hstart)

/-- A response of an accepted command is OK, or a transport error with the `life` of R237. -/
theorem endedByRule_of_rsp {op : Opcode} {t : State} {r : Response} (h : Underway op t ∨ EndedByRule op t)
    (hr : t.rsp = some r) :
    r.status = 0x00 ∨ (∃ kind : TxError, r.status = kind.code) ∧ t.regs.life = if op = .init then .uninit else .ready := by
  rcases h with ⟨_, hnone, _⟩ | ⟨_, hend⟩
  · rw [hnone] at hr
    contradiction
  · exact hend r hr

/-- INIT is never refused by the lifecycle (R237). -/
theorem exec_init_status {f0 v0 : Int} {s t : State} {r : Response} (hrsp : s.rsp = none)
    (hexec : exec (.init f0 v0) s = .next t) (hr : t.rsp = some r) : r.status ≠ 0x20 ∧ r.status ≠ 0x21 := by
  rcases exec_underway_or_ended hrsp hexec with ⟨c, herror, _⟩ | h
  · simp [Instr.opcode] at herror
  · rcases endedByRule_of_rsp h hr with hok | ⟨⟨kind, hkind⟩, _⟩
    · simp [hok]
    · cases kind <;> simp [hkind, TxError.code]

/-- A command that answers a transport error leaves UNINIT in INIT, and READY in every other command (R237). -/
theorem exec_life_of_transport_status {i : Instr} {s t : State} {r : Response} (hrsp : s.rsp = none)
    (hexec : exec i s = .next t) (hr : t.rsp = some r)
    (hstatus : r.status = 0x01 ∨ r.status = 0x02 ∨ r.status = 0x03) :
    t.regs.life = if i.opcode = .init then .uninit else .ready := by
  rcases exec_underway_or_ended hrsp hexec with ⟨c, herror, rfl⟩ | h
  · cases hr
    rcases lifecycleError_eq_some herror with rfl | rfl <;> simp [Cause.response, Cause.status] at hstatus
  · rcases endedByRule_of_rsp h hr with hok | ⟨_, hlife⟩
    · simp [hok] at hstatus
    · exact hlife

/-- Settles O15: the lifecycle check refuses the command in an idle RSEQ, and `life` stands at READY from the acceptance
of any command but INIT up to its response. -/
theorem lifecycleErrors : Obligations.LifecycleErrors :=
  ⟨fun _ _ hinit hop htx hlife =>
      exec_of_lifecycleError (c := .notInitialised) hop htx (hlife ▸ lifecycleError_uninit hinit),
    fun _ _ hinit hop htx hlife =>
      exec_of_lifecycleError (c := .terminated) hop htx (hlife ▸ lifecycleError_terminated hinit),
    fun _ _ _ _ _ hrsp hexec hr => exec_init_status hrsp hexec hr,
    fun _ _ _ _ hrsp hexec hr hstatus => exec_life_of_transport_status hrsp hexec hr hstatus⟩

end Sys2Proof.Machine
end

section
/-! PROOFS. Reset and silence: `rst` in the middle of a command and while IDLE (R260, R262), and a run in which the
transport never answers (R64, R282). -/

namespace Sys2Proof.Machine

open Sys2Proof

/-! ### Reset (R260, R262) -/

/-- An IDLE RSEQ that accepts no word takes the next input. -/
theorem step_of_no_fetch {s : State} (hop : s.seq.op = none) (hfetch : fetch s = none) : step s = .next (idleStep s) := by
  simp [step, hop, hfetch]

/-- With no word presented RSEQ accepts none (R46). -/
theorem fetch_of_no_cmds {s : State} (hcmds : s.cmds = []) : fetch s = none := by
  simp [fetch, hcmds]

/-- The next input of an RSEQ that runs no command, when it is `rst`. -/
theorem idleStep_rst {s : State} {rest : List Input} (hin : s.inputs = .rst :: rest) :
    idleStep s = { s.hardReset with inputs := rest } := by
  simp [idleStep, idleInput, State.hardReset, hin]

/-- A running command stops at `rst` and takes no more inputs (R262). -/
theorem drive_rst (body : List Micro) (rest : List Input) (s : State) (op : Opcode) (hop : s.seq.op = some op) :
    drive body (.rst :: rest) s = { s.hardReset with inputs := rest } := by
  rw [drive_busy body .rst rest s op hop]
  exact drive_idle body rest s.hardReset rfl

/-- Settles O12: `rst` is the next input of a running command, or of an RSEQ that accepts no word before it. -/
theorem resetAbortsTheCommand : Obligations.ResetAbortsTheCommand := by
  intro s rest hcase hin
  refine ⟨{ s.hardReset with inputs := rest }, ?_, rfl, rfl, rfl, rfl, rfl, rfl⟩
  cases hop : s.seq.op with
  | some op =>
    have hstep : step s = .next (resume op s) := by simp [step, hop]
    rw [hstep, resume, hin, drive_rst _ rest s op hop]
  | none =>
    have hstep : step s = .next (idleStep s) := by
      rcases hcase with hbusy | hrsp | hcmds
      · exact absurd hop hbusy
      · exact step_of_pending s hop hrsp
      · exact step_of_no_fetch hop (fetch_of_no_cmds hcmds)
    rw [hstep, idleStep_rst hin]

/-! ### A transport that never answers (R64, R282) -/

/-- The sequencer, the transport port and the register files of `t` are those of `s`. -/
def HoldsRequest (s t : State) : Prop := t.seq = s.seq ∧ t.tx = s.tx ∧ t.regs = s.regs

/-- A silent input leaves a command in its transaction, whatever response is pending. -/
theorem onInput_silent_holdsRequest (body : List Micro) {e : Input} {s : State} {q : TxReq} (he : e.Silent)
    (htx : s.tx = some q) : HoldsRequest s (onInput body e s) := by
  rcases he.cases with ⟨w, rfl⟩ | rfl | ⟨count, rfl⟩
  · exact ⟨rfl, rfl, rfl⟩
  · exact ⟨rfl, rfl, rfl⟩
  · have heq : onTicks body count s = s := by simp [onTicks, htx]
    rw [onInput, heq]
    exact ⟨rfl, rfl, rfl⟩

/-- So does a run on silent inputs. -/
theorem drive_silent_holdsRequest (body : List Micro) {es : List Input} {s : State} {q : TxReq}
    (hes : ∀ e ∈ es, e.Silent) (htx : s.tx = some q) : HoldsRequest s (drive body es s) := by
  refine drive_keeps_of_mem body (HoldsRequest s) Input.Silent (fun _ _ h => h) ?_ es hes s ⟨rfl, rfl, rfl⟩
  rintro e t _ he _ ⟨hseq, httx, hregs⟩
  obtain ⟨hseq', htx', hregs'⟩ := onInput_silent_holdsRequest body he (httx.trans htx)
  exact ⟨hseq'.trans hseq, htx'.trans httx, hregs'.trans hregs⟩

/-- The next state of a run in which a command runs. -/
theorem runOn_succ_of_runs {env : Nat → List Input} {s : State} {n : Nat} {op : Opcode} {a b : Int}
    (hrun : (runOn env s n).Runs op a b) :
    runOn env s (n + 1) = drive (bodyOf op a b) ((runOn env s n).inputs ++ env n) (runOn env s n) :=
  onward_of_next _ _ (hrun.step_eq _)

/-- Settles O52: a state that holds the request and has only silent inputs to come is followed by one that holds it
with its inputs used up, since the command still runs. -/
theorem unansweredRunsStayBusy : Obligations.UnansweredRunsStayBusy := by
  intro env s q hbusy htx hsilent henv
  obtain ⟨op, hop⟩ := Option.ne_none_iff_exists'.mp hbusy
  have hinv : ∀ n, HoldsRequest s (runOn env s n) ∧ ∀ e ∈ (runOn env s n).inputs, e.Silent := by
    intro n
    induction n with
    | zero => exact ⟨⟨rfl, rfl, rfl⟩, hsilent⟩
    | succ n ih =>
      obtain ⟨⟨hseq, hntx, hregs⟩, hin⟩ := ih
      have hrun : (runOn env s n).Runs op s.seq.argA s.seq.argB := by
        rw [State.Runs, hseq]
        exact ⟨hop, rfl, rfl⟩
      obtain ⟨hseq', htx', hregs'⟩ := drive_silent_holdsRequest (bodyOf op s.seq.argA s.seq.argB)
        (List.forall_mem_append.mpr ⟨hin, henv n⟩) (hntx.trans htx)
      rw [runOn_succ_of_runs hrun]
      refine ⟨⟨hseq'.trans hseq, htx'.trans hntx, hregs'.trans hregs⟩, ?_⟩
      rw [drive_inputs_of_busy _ _ _ (by rw [hseq', hseq]; exact hbusy)]
      exact fun _ he => nomatch he
  intro n
  obtain ⟨⟨hseq, hntx, hregs⟩, _⟩ := hinv n
  exact ⟨hseq, hntx.trans htx, hregs⟩

end Sys2Proof.Machine
end

section
/-! PROOFS. Failed seeks (R181, R182, R273): the window of a seek, and a failure behind it. -/

namespace Sys2Proof.Machine

open Sys2Proof

/-- CTRL while a seek is armed: the direction bit and SEEK (R181, R182). -/
def armedCtrl (up : Bool) (ctrl : Word) : Word :=
  (if up then ctrl ||| Config.BIT_SEEKUP else ctrl &&& ~~~Config.BIT_SEEKUP) ||| Config.BIT_SEEK

/-- The direction bit and SEEK, as one write of CTRL. -/
theorem Regs.toggleBits_setBits_seek (r : Regs) (up : Bool) :
    (r.toggleBits Config.CTRL Config.BIT_SEEKUP up).setBits Config.CTRL Config.BIT_SEEK =
      r.setSlot Config.CTRL (armedCtrl up r.x[Config.CTRL]) := by
  rw [Regs.toggleBits_eq, Regs.setSlot_setBits]
  rfl

/-- A seek that fails behind its window: CTRL is armed and transmitted, the window passes, and the rest fails. -/
theorem Fails.seekWindow {q : TxReq} {e e1 : BitVec 2} {d1 : BitVec 32} {up : Bool} {a b : Int} {r r' : Regs} {k n : Nat}
    {es rest : List Input} {seen : List Obs} (hle : 1000 ≤ k)
    (h : Fails q e (seekTail.drop 3) (r.setSlot Config.CTRL (armedCtrl up r.x[Config.CTRL])) es n seen r' rest) :
    Fails q e (bodyOf (if up then Instr.seekup else Instr.seekdown).opcode a b) r
      (.tx true e1 d1 :: .ticks k :: es) (n + 1)
      (.tx ⟨.write, 0x02, armedCtrl up r.x[Config.CTRL]⟩ :: .answer true e1 d1 :: .wait 1000 :: seen) r' rest := by
  rw [← Regs.toggleBits_setBits_seek] at h
  have hwrite : (Micro.writeReg Config.CTRL).request
      ((r.toggleBits Config.CTRL Config.BIT_SEEKUP up).setBits Config.CTRL Config.BIT_SEEK) =
        some ⟨.write, 0x02, armedCtrl up r.x[Config.CTRL]⟩ := by
    rw [Regs.toggleBits_setBits_seek, Micro.request, Regs.setSlot_writeRequest]
    rfl
  rw [bodyOf_seek]
  exact .update <| .update <| .answered hwrite <| .waited (ks := []) (by decide) (by simpa) h

/-- A burst behind the arming of a seek, its readback, and the clearing of SEEK: the new frequency, both status slots,
and CTRL with SEEK clear (R273). -/
theorem Regs.setSlot_ctrl_readback_clearBits (r : Regs) (c : Word) (rdata : BitVec 32) :
    ((r.setSlot Config.CTRL c).storeBurst rdata).readbackFrequency.clearBits Config.CTRL Config.BIT_SEEK =
      ((r.setSlot Config.CTRL (c &&& ~~~Config.BIT_SEEK)).storeBurst rdata).readbackFrequency := by
  rw [Regs.setSlot_ctrl_readback, Regs.setSlot_clearBits, Regs.setSlot_ctrl_readback]

/-- The final write of a seek transmits CTRL with SEEK clear. -/
theorem seekEnd_request (r : Regs) (c : Word) (rdata : BitVec 32) :
    (Micro.writeReg Config.CTRL).request ((r.setSlot Config.CTRL c).storeBurst rdata).readbackFrequency =
      some ⟨.write, 0x02, c⟩ := by
  rw [Regs.setSlot_ctrl_readback, Micro.request, Regs.setSlot_writeRequest]
  rfl

/-- Settles O32: behind the window the burst fails at once, or it is served and the final write fails. -/
theorem failedSeekAndTheSeekBit : Obligations.FailedSeekAndTheSeekBit := by
  intro up s e1 e2 e3 d1 d2 d3 k rest hlife hle armed ended ra rb
  have hinit : (if up then Instr.seekup else Instr.seekdown).opcode ≠ .init := by cases up <;> nofun
  constructor
  · intro hin he
    exact Fails.failsWith (n := 2) (q := burstRequest) hinit hlife hin he <|
      .seekWindow hle <| .failed rfl rfl
  · intro hin he
    have hregs : (((s.regs.setSlot Config.CTRL armed).storeBurst d2).readbackFrequency.clearBits Config.CTRL
        Config.BIT_SEEK) = ((s.regs.setSlot Config.CTRL ended).storeBurst d2).readbackFrequency :=
      Regs.setSlot_ctrl_readback_clearBits s.regs armed d2
    have hfails := Fails.failsWith (n := 3) (q := ⟨.write, 0x02, ended⟩) hinit hlife hin he <|
      .seekWindow hle <| .answered rfl <| .update <| .update <| .failed hregs (hregs ▸ seekEnd_request s.regs ended d2)
    rwa [Regs.storeBurst_readbackFrequency] at hfails

end Sys2Proof.Machine
end

section
/-! PROOFS. Progress: what an input does to a command in progress, with the two statements that follow from it: a command
that completes has seen the strobes of its Waits (R279, R280), and a fair run ends it (R64, R73, R282). -/

namespace Sys2Proof.Machine

open Sys2Proof

/-! ### The strobes a command waits for (R280, R283) -/

/-- The bounds of the Waits among the micro-steps, up to the response, added up. -/
def waitTotal : List Micro → Nat
  | [] => 0
  | .wait n :: ms => n + waitTotal ms
  | .respond _ :: _ => 0
  | .update _ :: ms => waitTotal ms
  | .writeReg _ :: ms => waitTotal ms
  | .readReg _ :: ms => waitTotal ms
  | .readSeq :: ms => waitTotal ms

/-- A transaction waits for no strobe. -/
theorem waitTotal_cons_of_isTransaction {m : Micro} (hm : m.isTransaction = true) (ms : List Micro) :
    waitTotal (m :: ms) = waitTotal ms := by
  cases m with
  | writeReg a => rfl
  | readReg a => rfl
  | readSeq => rfl
  | update f => contradiction
  | wait n => contradiction
  | respond f => contradiction

/-- The strobes that are still to come before a command that stands in `s` can complete: those of its micro-steps from
the one in progress on, less the ones this has counted if it is a Wait. -/
def owed (body : List Micro) (s : State) : Nat :=
  waitTotal (body.drop s.seq.pos) - (if s.tx = none then s.seq.timer else 0)

/-! ### What an input does to a command in progress -/

/-- The command is in the same micro-step in `t` as in `s`: its request has no answer among `es`, or its Wait has
counted the strobes of `es`. -/
structure Stays (es : List Input) (s t : State) : Prop where
  op : t.seq.op = s.seq.op
  pos : t.seq.pos = s.seq.pos
  tx : t.tx = s.tx
  unanswered : s.tx ≠ none → ∀ e ∈ es, e.isTx = false
  counted : s.tx = none → t.seq.timer = s.seq.timer + strobes es

/-- One input ends the command without completing it, leaves it in its micro-step, or lets it go on behind that. -/
inductive Turn (body : List Micro) (e : Input) (s u : State) : Prop where
  | aborted (hop : u.seq.op = none) (hrsp : ∀ r, u.rsp = some r → r.status ≠ 0x00)
  | stayed (h : Stays [e] s u)
  | wentOn (s' : State) (ms : List Micro) (hu : u = runFrom ms s') (hms : body.drop s'.seq.pos = ms)
    (hpos : s'.seq.pos = s.seq.pos + 1) (hop : s'.seq.op = s.seq.op) (htx : s'.tx = none)
    (howed : owed body s ≤ strobes [e] + waitTotal ms)

/-- A transport error is not OK (R231). -/
theorem TxError.code_ne_ok (kind : TxError) : kind.code ≠ 0x00 := by cases kind <;> decide

/-- The micro-step in progress: a transaction while a request is on the port, and otherwise a Wait that has not counted
out. -/
theorem microStep_of_legal {op : Opcode} {a b : Int} {s : State} (hrun : s.Runs op a b) (hlegal : SequencerLegal s) :
    ∃ m ms, (bodyOf op a b).drop s.seq.pos = m :: ms ∧ m.isTransaction = s.tx.isSome ∧
      (s.tx = none → ∃ n, m = .wait n ∧ s.seq.timer < n) := by
  obtain ⟨_, m, hm, hin⟩ := (inProgress_iff _ s).mp (hrun.sequencerLegal_iff.mp hlegal)
  obtain ⟨hlt, hget⟩ := List.getElem?_eq_some_iff.mp hm
  refine ⟨m, _, by rw [List.drop_eq_getElem_cons hlt, hget], hin.isTransaction_eq, fun htx => ?_⟩
  cases m with
  | wait n => exact ⟨n, rfl, hin.2⟩
  | update f => exact hin.elim
  | respond f => exact hin.elim
  | _ => simp [Micro.InProgressIn, htx] at hin

/-- Strobes count on in a Wait or end it, and find nothing to count in a transaction. -/
theorem onTicks_turn {op : Opcode} {a b : Int} {s : State} (count : Nat) (hrun : s.Runs op a b)
    (hlegal : SequencerLegal s) : Turn (bodyOf op a b) (.ticks count) s (onTicks (bodyOf op a b) count s) := by
  cases htx : s.tx with
  | some q =>
    have heq : onTicks (bodyOf op a b) count s = s := by simp [onTicks, htx]
    rw [heq]
    exact .stayed ⟨rfl, rfl, rfl, fun _ => by simp [Input.isTx], fun h => by simp [htx] at h⟩
  | none =>
    obtain ⟨m, ms, hdrop, _, hwait⟩ := microStep_of_legal hrun hlegal
    obtain ⟨n, rfl, _⟩ := hwait htx
    by_cases hle : n ≤ s.seq.timer + count
    · refine .wentOn { s with seq := { s.seq with timer := s.seq.timer + count, pos := s.seq.pos + 1 } } ms
        (by simp [onTicks, htx, hdrop, hle]) (drop_succ_of_drop_eq_cons hdrop) rfl rfl htx ?_
      simp only [owed, hdrop, htx, waitTotal, strobes, if_true]
      omega
    · have heq : onTicks (bodyOf op a b) count s = { s with seq := { s.seq with timer := s.seq.timer + count } } := by
        simp [onTicks, htx, hdrop, hle]
      rw [heq]
      exact .stayed ⟨rfl, rfl, rfl, fun h => absurd htx h, fun _ => rfl⟩

/-- An answer fails the transaction or lets the command go on behind it, and finds nothing to answer in a Wait. -/
theorem onAnswer_turn {op : Opcode} {a b : Int} {s : State} (ok : Bool) (err : BitVec 2) (rdata : BitVec 32)
    (hrun : s.Runs op a b) (hlegal : SequencerLegal s) :
    Turn (bodyOf op a b) (.tx ok err rdata) s (onAnswer (bodyOf op a b) ok err rdata s) := by
  obtain ⟨m, ms, hdrop, htrans, _⟩ := microStep_of_legal hrun hlegal
  rcases onAnswer_cases (bodyOf op a b) ok err rdata s with
      ⟨htx, heq⟩ | ⟨q, _, _, heq⟩ | ⟨q, _, _, hnil, _⟩ | ⟨q, m', ms', htx, _, hdrop', heq⟩
  · rw [heq]
    exact .stayed ⟨rfl, rfl, rfl, fun h => absurd htx h, fun _ => rfl⟩
  · rw [heq]
    refine .aborted rfl fun r hr => ?_
    cases hr
    exact TxError.code_ne_ok _
  · simp [hnil] at hdrop
  · obtain ⟨rfl, rfl⟩ := List.cons_eq_cons.mp (hdrop.symm.trans hdrop')
    refine .wentOn _ ms heq (drop_succ_of_drop_eq_cons hdrop) rfl rfl rfl ?_
    rw [owed, hdrop, waitTotal_cons_of_isTransaction (by simp [htrans, htx])]
    simp [htx]

/-- What an input does to a command in progress. -/
theorem onInput_turn {op : Opcode} {a b : Int} {s : State} (e : Input) (hrun : s.Runs op a b)
    (hlegal : SequencerLegal s) : Turn (bodyOf op a b) e s (onInput (bodyOf op a b) e s) := by
  cases e with
  | rst => exact .aborted rfl fun _ hr => nomatch hr
  | cmd w => exact .stayed ⟨rfl, rfl, rfl, fun _ => by simp [Input.isTx], fun _ => rfl⟩
  | take => exact .stayed ⟨rfl, rfl, rfl, fun _ => by simp [Input.isTx], fun _ => rfl⟩
  | ticks count => exact onTicks_turn count hrun hlegal
  | tx ok err rdata => exact onAnswer_turn ok err rdata hrun hlegal

/-- An input keeps the sequencer of a command in progress legal. -/
theorem onInput_sequencerLegal {op : Opcode} {a b : Int} {s : State} (e : Input) (hrun : s.Runs op a b)
    (hlegal : SequencerLegal s) : SequencerLegal (onInput (bodyOf op a b) e s) :=
  (keptByEveryMove_sequencerLegal.running op a b).onInput e s (fun _ => keptByEveryMove_sequencerLegal.reset s) hrun
    hlegal

/-- The strobes of two parts of the inputs. -/
theorem strobes_cons (e : Input) (es : List Input) : strobes (e :: es) = strobes [e] + strobes es :=
  strobes_append [e] es

/-! ### A command that completes has seen its strobes (R279, R283) -/

/-- In a micro-step the strobes seen count against the strobes owed. -/
theorem Stays.owed_le {es : List Input} {s t : State} (h : Stays es s t) (body : List Micro) :
    owed body s ≤ strobes es + owed body t := by
  rw [owed, owed, h.pos, h.tx]
  by_cases htx : s.tx = none
  · simp only [htx, h.counted htx, if_true]
    omega
  · simp only [htx, if_false]
    omega

/-- Of `total` strobes the command has seen `n`: it runs and owes no fewer than the rest, or has ended, and has seen them
all if it has completed. -/
def Accounts (body : List Micro) (total n : Nat) (t : State) : Prop :=
  (t.seq.op ≠ none ∧ total ≤ n + owed body t) ∨
    (t.seq.op = none ∧ ∀ r, t.rsp = some r → r.status = 0x00 → total ≤ n)

/-- Micro-steps come to the first Wait among them, or to what stands in front of it, with all their strobes owed. -/
theorem runFrom_accounts (body ms : List Micro) (total n : Nat) (s : State) (hop : s.seq.op ≠ none) (htx : s.tx = none)
    (hms : body.drop s.seq.pos = ms) (hle : total ≤ n + waitTotal ms) : Accounts body total n (runFrom ms s) := by
  induction ms generalizing s with
  | nil => exact .inl ⟨hop, hle.trans (by simp [waitTotal])⟩
  | cons m ms ih =>
    cases m with
    | update f => exact ih _ hop htx (drop_succ_of_drop_eq_cons hms) hle
    | respond f => exact .inr ⟨rfl, fun _ _ _ => hle⟩
    | _ => exact .inl ⟨hop, by simpa [owed, hms, htx] using hle⟩

/-- The strobes of an input are accounted for. -/
theorem onInput_accounts {op : Opcode} {a b : Int} {s : State} {total n : Nat} (e : Input) (hrun : s.Runs op a b)
    (hlegal : SequencerLegal s) (hle : total ≤ n + owed (bodyOf op a b) s) :
    Accounts (bodyOf op a b) total (n + strobes [e]) (onInput (bodyOf op a b) e s) := by
  cases onInput_turn e hrun hlegal with
  | aborted hop hrsp => exact .inr ⟨hop, fun r hr hok => absurd hok (hrsp r hr)⟩
  | stayed h =>
    have howed := h.owed_le (bodyOf op a b)
    exact .inl ⟨h.op ▸ hrun.op_ne_none, by omega⟩
  | wentOn s' ms hu hms hpos hop htx howed =>
    rw [hu]
    exact runFrom_accounts _ ms total _ s' (hop ▸ hrun.op_ne_none) htx hms (by omega)

/-- The strobes of the inputs that the run of a command takes are accounted for. -/
theorem drive_accounts {op : Opcode} {a b : Int} {total n : Nat} (es : List Input) (s : State)
    (hrun : s.IdleOrRuns op a b) (hlegal : SequencerLegal s) (h : Accounts (bodyOf op a b) total n s) :
    ∃ used, es = used ++ (drive (bodyOf op a b) es s).inputs ∧
      Accounts (bodyOf op a b) total (n + strobes used) (drive (bodyOf op a b) es s) := by
  induction es generalizing s n with
  | nil => exact ⟨[], rfl, h⟩
  | cons e es ih =>
    rcases h with ⟨hop, hle⟩ | ⟨hop, hend⟩
    · have hruns := hrun.resolve_left hop
      obtain ⟨used, hes, hused⟩ := ih (onInput (bodyOf op a b) e s) (onInput_idleOrRuns _ e s op a b hruns)
        (onInput_sequencerLegal e hruns hlegal) (onInput_accounts e hruns hlegal hle)
      rw [drive_busy _ e es s op hruns.1]
      refine ⟨e :: used, congrArg (e :: ·) hes, ?_⟩
      rwa [strobes_cons, ← Nat.add_assoc]
    · rw [drive_idle _ _ s hop]
      exact ⟨[], rfl, .inr ⟨hop, hend⟩⟩

/-- Every command has a micro-step. -/
theorem bodyOf_ne_nil (op : Opcode) (a b : Int) : bodyOf op a b ≠ [] := by
  obtain ⟨f, hf⟩ := bodyOf_getLast? op a b
  exact fun hnil => by simp [hnil] at hf

/-- The strobes that an accepted command takes are accounted for, whatever the transport port held. -/
theorem drive_bodyOf_accounts {s : State} (op : Opcode) (a b : Int) (es : List Input) :
    ∃ used, es = used ++ (drive (bodyOf op a b) es (runFrom (bodyOf op a b) (s.accept op a b))).inputs ∧
      Accounts (bodyOf op a b) (waitTotal (bodyOf op a b)) (strobes used)
        (drive (bodyOf op a b) es (runFrom (bodyOf op a b) (s.accept op a b))) := by
  rw [← runFrom_bodyOf_tx]
  have hrun : State.Runs { s.accept op a b with tx := none } op a b := s.accept_runs op a b
  have hlegal : SequencerLegal (runFrom (bodyOf op a b) { s.accept op a b with tx := none }) :=
    runFrom_sequencerLegal op a b _ _ hrun rfl (bodyOf_ne_nil op a b) rfl rfl
  have hstart := runFrom_accounts (bodyOf op a b) (bodyOf op a b) _ 0 _ hrun.op_ne_none rfl rfl (Nat.le_add_left _ _)
  simpa only [Nat.zero_add] using drive_accounts es _ (runFrom_idleOrRuns _ _ op a b hrun) hlegal hstart

/-- The lifecycle check never answers OK (R231, R237). -/
theorem lifecycleError_status_ne_ok {op : Opcode} {life : Life} {c : Cause} (h : lifecycleError op life = some c)
    (step : Byte) : (c.response step).status ≠ 0x00 := by
  rcases lifecycleError_eq_some h with rfl | rfl <;> simp [Cause.response, Cause.status]

/-- A command that has a response has ended. -/
theorem op_eq_none_of_exec_rsp {i : Instr} {s t : State} {r : Response} (hrsp : s.rsp = none)
    (hexec : exec i s = .next t) (hr : t.rsp = some r) : t.seq.op = none := by
  rcases exec_underway_or_ended hrsp hexec with ⟨c, _, rfl⟩ | ⟨_, hnone, _⟩ | ⟨hop, _⟩
  · rfl
  · rw [hnone] at hr
    contradiction
  · exact hop

/-- A command that answers OK has taken inputs with the strobes of all its Waits. -/
theorem exec_ok_waits {i : Instr} {s t : State} {r : Response} (hrsp : s.rsp = none) (hexec : exec i s = .next t)
    (hr : t.rsp = some r) (hok : r.status = 0x00) :
    ∃ used, s.inputs = used ++ t.inputs ∧
      waitTotal (bodyOf i.opcode (commandArgs i).1 (commandArgs i).2) ≤ strobes used := by
  have hop := op_eq_none_of_exec_rsp hrsp hexec hr
  rw [exec_eq_command] at hexec
  rcases command_cases i.opcode (commandArgs i).1 (commandArgs i).2
      (bodyOf i.opcode (commandArgs i).1 (commandArgs i).2) s with ⟨c, herror, heq⟩ | ⟨_, heq⟩ <;>
    cases heq.symm.trans hexec
  · cases hr
    exact absurd hok (lifecycleError_status_ne_ok herror _)
  · obtain ⟨used, hin, hbusy | ⟨_, hended⟩⟩ :=
      drive_bodyOf_accounts i.opcode (commandArgs i).1 (commandArgs i).2 s.inputs
    · exact absurd hop hbusy.1
    · exact ⟨used, hin, hended r hr hok⟩

/-- Settles O41: the Waits of each body add up to the bound. -/
theorem completionTakesTheWaits : Obligations.CompletionTakesTheWaits := by
  intro i s t r _ hrsp hexec hr hok
  obtain ⟨used, hin, hle⟩ := exec_ok_waits hrsp hexec hr hok
  refine ⟨used, hin, le_trans ?_ hle⟩
  cases i <;> simp [Instr.opcode, waitTotal]

/-! ### A fair run ends the command (R64, R73, R282) -/

/-- Micro-steps go forward. -/
theorem runFrom_pos_le (ms : List Micro) (s : State) : s.seq.pos ≤ (runFrom ms s).seq.pos :=
  runFrom_keeps (fun t => s.seq.pos ≤ t.seq.pos) (fun _ _ h => h) (fun _ _ h => h) (fun _ _ h => h) ms
    (fun _ _ _ h => Nat.le_succ_of_le h) s le_rfl

/-- Between `s` and `t` the command has ended, or got to a later micro-step, or stayed in its micro-step on `es`. -/
def Progress (es : List Input) (s t : State) : Prop :=
  t.seq.op = none ∨ s.seq.pos < t.seq.pos ∨ Stays es s t

/-- With no inputs a command stays where it is. -/
theorem Stays.refl (s : State) : Stays [] s s :=
  ⟨rfl, rfl, rfl, fun _ _ he => (List.not_mem_nil he).elim, fun _ => rfl⟩

/-- What is still to come does not count as seen. -/
theorem Stays.withInputs {es fs : List Input} {s t : State} (h : Stays es s t) : Stays es s { t with inputs := fs } :=
  ⟨h.op, h.pos, h.tx, h.unanswered, h.counted⟩

/-- A command that stays on two parts of the inputs stays on both. -/
theorem Stays.trans {es fs : List Input} {s t u : State} (h : Stays es s t) (h' : Stays fs t u) :
    Stays (es ++ fs) s u where
  op := h'.op.trans h.op
  pos := h'.pos.trans h.pos
  tx := h'.tx.trans h.tx
  unanswered htx := List.forall_mem_append.mpr ⟨h.unanswered htx, h'.unanswered (h.tx ▸ htx)⟩
  counted htx := by
    rw [h'.counted (h.tx.trans htx), h.counted htx, strobes_append, Nat.add_assoc]

/-- The progress of a command that had not ended in between. -/
theorem Progress.trans {es fs : List Input} {s t u : State} (h : Progress es s t) (hbusy : t.seq.op ≠ none)
    (h' : Progress fs t u) : Progress (es ++ fs) s u := by
  rcases h.resolve_left hbusy with hlt | hst
  · rcases h' with hop | hlt' | hst'
    · exact .inl hop
    · exact .inr (.inl (hlt.trans hlt'))
    · exact .inr (.inl (hst'.pos ▸ hlt))
  · rcases h' with hop | hlt' | hst'
    · exact .inl hop
    · exact .inr (.inl (hst.pos ▸ hlt'))
    · exact .inr (.inr (hst.trans hst'))

/-- The progress of a command on one input. -/
theorem onInput_progress {op : Opcode} {a b : Int} {s : State} (e : Input) (hrun : s.Runs op a b)
    (hlegal : SequencerLegal s) : Progress [e] s (onInput (bodyOf op a b) e s) := by
  cases onInput_turn e hrun hlegal with
  | aborted hop _ => exact .inl hop
  | stayed h => exact .inr (.inr h)
  | wentOn s' ms hu _ hpos _ _ _ =>
    have hle := runFrom_pos_le ms s'
    rw [hpos, ← hu] at hle
    exact .inr (.inl hle)

/-- The progress of a command on a list of inputs. -/
theorem drive_progress {op : Opcode} {a b : Int} (es : List Input) (s : State) (hrun : s.Runs op a b)
    (hlegal : SequencerLegal s) : Progress es s (drive (bodyOf op a b) es s) := by
  induction es generalizing s with
  | nil => exact .inr (.inr (.withInputs (.refl s)))
  | cons e es ih =>
    rw [drive_busy _ e es s op hrun.1]
    rcases onInput_idleOrRuns (bodyOf op a b) e s op a b hrun with hop | hrun'
    · rw [drive_idle _ es _ hop]
      exact .inl hop
    · exact (onInput_progress e hrun hlegal).trans hrun'.op_ne_none
        (ih _ hrun' (onInput_sequencerLegal e hrun hlegal))

/-- The command runs in every state of the run, in one of its transactions or Waits. -/
def NeverEnds (env : Nat → List Input) (s : State) (op : Opcode) (a b : Int) : Prop :=
  ∀ n, (runOn env s n).Runs op a b ∧ SequencerLegal (runOn env s n)

/-- A run that is never IDLE is in the same command for ever. -/
theorem neverEnds_of_busy {env : Nat → List Input} {s : State} {op : Opcode} {a b : Int} (hrun : s.Runs op a b)
    (hlegal : SequencerLegal s) (hbusy : ∀ n, (runOn env s n).seq.op ≠ none) : NeverEnds env s op a b := by
  intro n
  induction n with
  | zero => exact ⟨hrun, hlegal⟩
  | succ n ih =>
    obtain ⟨hrun, hlegal⟩ := ih
    have hnext := hbusy (n + 1)
    rw [runOn_succ_of_runs hrun] at hnext ⊢
    exact ⟨(drive_idleOrRuns _ _ _ op a b (.inr hrun)).resolve_left hnext,
      everyStepKeepsSequencerLegal _ _ (by exact hlegal) (hrun.step_eq _)⟩

/-- The inputs that the k steps from the n-th state on take, if the command never ends. -/
def taken (env : Nat → List Input) (s : State) (n : Nat) : Nat → List Input
  | 0 => []
  | k + 1 => taken env s n k ++ ((runOn env s (n + k)).inputs ++ env (n + k))

/-- All that the outside adds on the way is taken. -/
theorem mem_taken_succ {env : Nat → List Input} {n k : Nat} {e : Input} (s : State) (h : e ∈ env (n + k)) :
    e ∈ taken env s n (k + 1) :=
  List.mem_append_right _ (List.mem_append_right _ h)

/-- The strobes that the outside adds on the way are taken. -/
theorem strobesFrom_le_strobes_taken (env : Nat → List Input) (s : State) (n k : Nat) :
    strobesFrom env n k ≤ strobes (taken env s n k) := by
  induction k with
  | zero => exact le_rfl
  | succ k ih =>
    rw [strobesFrom_succ, taken, strobes_append, strobes_append]
    omega

/-- The progress of a command that never ends, in k steps. -/
theorem NeverEnds.progress {env : Nat → List Input} {s : State} {op : Opcode} {a b : Int}
    (h : NeverEnds env s op a b) (n k : Nat) : Progress (taken env s n k) (runOn env s n) (runOn env s (n + k)) := by
  induction k with
  | zero => exact .inr (.inr (.refl _))
  | succ k ih =>
    obtain ⟨hrun, hlegal⟩ := h (n + k)
    rw [← Nat.add_assoc, runOn_succ_of_runs hrun]
    exact ih.trans hrun.op_ne_none (drive_progress _ _ hrun hlegal)

/-- In a fair run a command gets behind each of its micro-steps: its transaction has its answer, and its Wait the strobes
up to its bound. -/
theorem NeverEnds.gets_on {env : Nat → List Input} {s : State} {op : Opcode} {a b : Int} (h : NeverEnds env s op a b)
    (hfair : Fair env s) (n : Nat) : ∃ k, (runOn env s n).seq.pos < (runOn env s (n + k)).seq.pos := by
  by_contra hnone
  have hstays : ∀ k, Stays (taken env s n k) (runOn env s n) (runOn env s (n + k)) := fun k =>
    ((h.progress n k).resolve_left (h (n + k)).1.op_ne_none).resolve_left fun hlt => hnone ⟨k, hlt⟩
  obtain ⟨hrun, hlegal⟩ := h n
  cases htx : (runOn env s n).tx with
  | some q =>
    obtain ⟨k, hk⟩ := hfair.answers n (by simp [htx])
    obtain ⟨e, he, hanswer⟩ := List.any_eq_true.mp hk
    have hsilent := (hstays (k + 1)).unanswered (by simp [htx]) e (mem_taken_succ s he)
    simp [hanswer] at hsilent
  | none =>
    obtain ⟨m, ms, hdrop, _, hwait⟩ := microStep_of_legal hrun hlegal
    obtain ⟨bound, rfl, _⟩ := hwait htx
    obtain ⟨k, hk⟩ := hfair.strobe n bound (by simp [State.inWait, hrun.1, htx])
    obtain ⟨hrun', hlegal'⟩ := h (n + k)
    obtain ⟨m', ms', hdrop', _, hwait'⟩ := microStep_of_legal hrun' hlegal'
    obtain ⟨bound', rfl, hlt⟩ := hwait' ((hstays k).tx.trans htx)
    rw [(hstays k).pos, hdrop] at hdrop'
    cases hdrop'
    have hcount := (hstays k).counted htx
    have htaken := strobesFrom_le_strobes_taken env s n k
    omega

/-- In a fair run a command that never ended would get to every position. -/
theorem NeverEnds.reaches {env : Nat → List Input} {s : State} {op : Opcode} {a b : Int} (h : NeverEnds env s op a b)
    (hfair : Fair env s) (p : Nat) : ∃ n, p ≤ (runOn env s n).seq.pos := by
  induction p with
  | zero => exact ⟨0, Nat.zero_le _⟩
  | succ p ih =>
    obtain ⟨n, hn⟩ := ih
    obtain ⟨k, hk⟩ := h.gets_on hfair n
    exact ⟨n + k, by omega⟩

/-- Settles O51: a command that never ended would get behind the end of its body. -/
theorem fairRunsEndTheCommand : Obligations.FairRunsEndTheCommand := by
  intro env s hlegal hbusy hfair
  by_contra hnever
  obtain ⟨op, hop⟩ := Option.ne_none_iff_exists'.mp hbusy
  have hends : NeverEnds env s op s.seq.argA s.seq.argB :=
    neverEnds_of_busy ⟨hop, rfl, rfl⟩ hlegal fun n hn => hnever ⟨n, hn⟩
  obtain ⟨n, hn⟩ := hends.reaches hfair (bodyOf op s.seq.argA s.seq.argB).length
  obtain ⟨m, ms, hdrop, _⟩ := microStep_of_legal (hends n).1 (hends n).2
  simp [List.drop_eq_nil_of_le hn] at hdrop

end Sys2Proof.Machine
end

section
/-! PROOFS. Record: every operation only adds to the observation record (R17). A reset leaves the record as it is, so
`KeptByEveryMove`, whose predicates hold after every reset, does not apply, and the proof follows the operations. -/

namespace Sys2Proof.Machine

open Sys2Proof

/-- One more entry keeps what the record began with. -/
theorem prefix_trace_concat {past os : List Obs} (o : Obs) (h : past <+: os) : past <+: os ++ [o] :=
  h.trans (List.prefix_append os [o])

/-- Micro-steps record their requests, the start of a Wait and the response, behind what was there. -/
theorem prefix_trace_runFrom {past : List Obs} (ms : List Micro) (s : State) (h : past <+: s.trace) :
    past <+: (runFrom ms s).trace :=
  runFrom_keeps (fun t => past <+: t.trace) (fun _ _ => prefix_trace_concat _) (fun _ _ => prefix_trace_concat _)
    (fun _ _ => prefix_trace_concat _) ms (fun _ _ _ ht => ht) s h

/-- An error records its response. -/
theorem trace_prefix_raise (s : State) (c : Cause) : s.trace <+: (s.raise c).trace :=
  prefix_trace_concat _ List.prefix_rfl

/-- Strobes record what the micro-steps behind a Wait record. -/
theorem trace_prefix_onTicks (body : List Micro) (count : Nat) (s : State) :
    s.trace <+: (onTicks body count s).trace := by
  rcases onTicks_cases body count s with heq | ⟨_, _, _, _, _, heq⟩ | ⟨_, rest, _, _, _, heq⟩ <;>
    simp only [heq]
  · exact List.prefix_rfl
  · exact List.prefix_rfl
  · exact prefix_trace_runFrom rest _ List.prefix_rfl

/-- An answer to a request is recorded, before what follows from it. -/
theorem trace_prefix_onAnswer (body : List Micro) (ok : Bool) (err : BitVec 2) (rdata : BitVec 32) (s : State) :
    s.trace <+: (onAnswer body ok err rdata s).trace := by
  have hanswer : s.trace <+: (s.observe (.answer ok err rdata)).trace := prefix_trace_concat _ List.prefix_rfl
  rcases onAnswer_cases body ok err rdata s with
      ⟨_, heq⟩ | ⟨q, _, _, heq⟩ | ⟨q, _, _, _, heq⟩ | ⟨q, m, rest, _, _, _, heq⟩ <;> simp only [heq]
  · exact List.prefix_rfl
  · exact hanswer.trans (trace_prefix_raise _ _)
  · exact hanswer
  · exact prefix_trace_runFrom rest _ hanswer

/-- No input of a running command takes an entry out of the record; `rst`, a presented word and `rsp_ready` add none. -/
theorem trace_prefix_onInput (body : List Micro) (e : Input) (s : State) :
    s.trace <+: (onInput body e s).trace := by
  cases e with
  | rst => exact List.prefix_rfl
  | cmd w => exact List.prefix_rfl
  | take => exact List.prefix_rfl
  | ticks count => exact trace_prefix_onTicks body count s
  | tx ok err rdata => exact trace_prefix_onAnswer body ok err rdata s

/-- A run of a command only adds to the record, whatever its inputs. -/
theorem trace_prefix_drive (body : List Micro) (es : List Input) (s : State) :
    s.trace <+: (drive body es s).trace :=
  drive_keeps body (fun t => s.trace <+: t.trace) (fun _ _ h => h)
    (fun e t _ _ h => h.trans (trace_prefix_onInput body e t)) es s List.prefix_rfl

/-- A command only adds to the record from its acceptance or refusal on. -/
theorem trace_prefix_exec {i : Instr} {s t : State} (hexec : exec i s = .next t) : s.trace <+: t.trace := by
  rcases exec_cases i s with ⟨c, heq⟩ | heq <;> cases heq.symm.trans hexec
  · exact trace_prefix_raise s c
  · exact (prefix_trace_runFrom _ (s.accept _ _ _) List.prefix_rfl).trans (trace_prefix_drive _ _ _)

/-- Without a command nothing is recorded. -/
theorem idleStep_trace (s : State) : (idleStep s).trace = s.trace := by
  unfold idleStep
  split
  · rfl
  · next e es _ => cases e <;> rfl

/-- A step keeps the record so far as the beginning of the record after it. -/
theorem trace_prefix_step {s t : State} (hstep : step s = .next t) : s.trace <+: t.trace := by
  rcases step_cases s with ⟨op, _, heq⟩ | ⟨w, i, _, _, heq⟩ | ⟨w, r, _, _, heq⟩ | ⟨_, _, heq⟩ <;> rw [heq] at hstep
  · cases hstep
    exact trace_prefix_drive _ s.inputs s
  · exact trace_prefix_exec (s := s.dropFetched) hstep
  · cases hstep
    exact trace_prefix_raise s.dropFetched _
  · cases hstep
    rw [idleStep_trace]

/-- Settles O44: what a step adds is what stands behind the prefix. -/
theorem observationRecordOnlyGrows : Obligations.ObservationRecordOnlyGrows := by
  intro s t hstep
  obtain ⟨more, hmore⟩ := trace_prefix_step hstep
  exact ⟨more, hmore.symm⟩

end Sys2Proof.Machine
end
